-- ==== Sys2Proof/Word.lean ====
section
/-! DEFINITION. The byte of the part's three links, and the sets that travel as one byte (ch11). -/

namespace Sys2Proof

/-- One byte of a link. -/
abbrev Byte := BitVec 8

/-- A set of six causes in the order of ch11's code table: bit 0 is the first cause. Both the stream causes
and the engine causes are such sets. -/
abbrev CauseSet := BitVec 6

end Sys2Proof
end

