-- ==== Sys2Proof/Syntax.lean ====
section
/-! DEFINITION. The commands of the block: one constructor per row of spec/opcode_table.json, in the table's order.
The table gives no operand bits; the operands are what the row's rule says arrives with the event. -/

namespace Sys2Proof

/-- An epoch (S, k): index `k` within second `sec` at the output rate (ch0 "Epochs"). -/
structure Epoch where
  sec : Nat
  k : Nat
  deriving DecidableEq, Repr

/-- The block's commands. -/
inductive Instr where
  /-- R6, R167: the reset input is asserted, or the part powers up. -/
  | powerOn
  /-- R31: the reset input is released. -/
  | resetInputRelease
  /-- R33: a rising edge on PPS. -/
  | ppsEdge
  /-- R37: 3 s in ACQUIRING without an edge. -/
  | acquireTimeout
  /-- R39: 1.5 s in LOCKED without an edge. -/
  | missingEdgeLimit
  /-- R40: the holdover limit is reached. -/
  | holdoverLimit
  /-- R47: local time reaches the instant of the next epoch. -/
  | epochTick
  /-- R142: local time reaches the deadline of the OPEN slot of this epoch. -/
  | deadlineExpiry (epoch : Epoch)
  /-- R50, R53: the last byte of a frame arrives; the operand is the whole transfer. -/
  | frameOffered (bytes : List Byte)
  /-- R54: intake takes and handles the oldest frame. -/
  | frameHandling
  /-- R18: REGISTER STREAM's insertion edit completes. -/
  | insertionEditCompletion
  /-- R29: RETIRE STREAM's removal edit completes. -/
  | removalEditCompletion
  /-- R144: emission of the oldest slot begins. -/
  | emissionBegin
  /-- R145: the emission in flight completes. -/
  | emissionCompletion
  /-- R152: transmission of the oldest set begins. -/
  | transmissionBegin
  /-- R152: the last byte of the set in transmission is sent. -/
  | transmissionCompletion
  /-- R153: the consumer asserts ready. -/
  | readyAssert
  /-- R153: the consumer withdraws ready. -/
  | readyWithdraw
  /-- MESSAGE_RECEIVED (R162): bytes that arrive on the management link, in their order; a message is received with its
  last byte. -/
  | managementBytes (bytes : List Byte)
  /-- R164: the last byte of the answer is sent. -/
  | answerSent
  /-- R166: the oldest message, of a kind that names no command, is started. -/
  | malformed
  | readEngine
  | configureAlignment
  | configureTimebase
  | setTime
  | readTime
  | start
  | stopDrain
  | stopFlush
  | resetEngine
  | setEngineCauseMask
  | takeEngineCauses
  | registerStream
  | amendStream
  | suspendStream
  | resumeStream
  | resetStream
  | retireStream
  | lookupStream
  | listStreams
  | readStream
  | takeStreamCauses
  deriving DecidableEq, Repr

/-- R193: the arrival of one whole message, its declared body length that of its body (at most 255 bytes). -/
def Instr.messageReceived (kind tag : Byte) (body : List Byte) : Instr :=
  .managementBytes (kind :: tag :: BitVec.ofNat 8 body.length :: body)

end Sys2Proof
end

