-- ==== Sys2Proof/Decode.lean ====
section
/-! DEFINITION. The commands that a word of spec/opcode_table.json spells. No row of the table gives bits ("fields"
is empty and there is no "fixed" in any row), so no word spells a command. -/

namespace Sys2Proof

/-- The command an `nbits`-bit word `w` spells by the table's bits: none, since no row gives bits. -/
def decodeTableWord (_nbits _w : Nat) : Option Instr := none

end Sys2Proof
end

