-- ==== Sys2Proof/Config.lean ====
section
/-! DEFINITION. The fixed figures of ch0 ("Fixed figures") and of the rules that name them, and the free values:
constants with no body for what the spec leaves open. -/

namespace Sys2Proof.Config

/-- Stream records, indexed 0 to 1023 (ch0). -/
@[simp] def recordCount : Nat := 1024
/-- Frames the ingress FIFO holds (R53). -/
@[simp] def fifoCapacity : Nat := 256
/-- Slots the alignment window holds (R108). -/
@[simp] def windowCapacity : Nat := 64
/-- Aligned sets the egress buffer holds (R150). -/
@[simp] def egressCapacity : Nat := 4
/-- Messages the command queue holds (R163). -/
@[simp] def queueCapacity : Nat := 8
/-- Latencies a record's history holds (R90). -/
@[simp] def historyCapacity : Nat := 8
/-- Bytes of a frame the FIFO keeps (R51). -/
@[simp] def keptFrameBytes : Nat := 78
/-- Bytes of a command's body the queue keeps (R162). -/
@[simp] def keptBodyBytes : Nat := 32
/-- Pairs one LIST STREAMS answer carries at most (R15). -/
@[simp] def listPairs : Nat := 16
/-- The last second of the seconds range (R31). -/
@[simp] def maxSec : Nat := 4294967295
/-- Nanoseconds in a second. -/
@[simp] def nsPerSec : Nat := 1000000000
/-- One period of the 125 MHz reference clock, in ns (R31). -/
@[simp] def periodNs : Nat := 8
/-- The last nanosecond value of local time (R31, R141). -/
@[simp] def lastNs : Nat := 999999992
/-- The value at which a counter saturates (ch0 "Counters"). -/
@[simp] def counterMax : Nat := 4294967295
/-- The greatest latency in µs (R84). -/
@[simp] def latencyMax : Nat := 16777215
/-- Acquire timeout of the timebase, in ns (R34, R37). -/
@[simp] def acquireTimeoutNs : Nat := 3000000000
/-- Missing-edge limit of the timebase, in ns (R34, R39). -/
@[simp] def missingEdgeNs : Nat := 1500000000
/-- HOLDOVER re-lock bound, in ns (R34, R40). -/
@[simp] def relockBoundNs : Nat := 10000

/-- FREE VALUE (log 4). Whether the operation with this code, in flight in the n-th reference period the model runs,
ends in that period. The spec says only that handling, edits, emissions, transmissions and answers take time. -/
opaque endsIn (period operation : Nat) : Bool

/-- FREE VALUE (log 3). Which of the waiting events is taken next when several of the part's own fall together in one
reference period (the pick is made modulo their number). The spec allows every order. -/
opaque nextTaken (period waiting : Nat) : Nat

end Sys2Proof.Config
end

