-- ==== Sys2Proof/Machine/State.lean ====
section
/-! DEFINITION. The block's state as plain data: everything the spec names (INVENTORY.md '## State'), the reset state,
and the outcomes' reason types. -/

namespace Sys2Proof.Machine

/-- Why a step would stop the block with a fault. The spec describes no such condition (INVENTORY.md '## Faults'),
so no constructor exists and no step can fault. -/
inductive Fault where
  deriving DecidableEq, Repr

/-- Why a command has no meaning. -/
inductive Refusal where
  /-- Raised by `exec`'s arm of a command that has no meaning yet (safe: the run stops). No arm raises it. -/
  | notModelled (mnemonic : String)
  deriving DecidableEq, Repr

/-- A local time (S, n) (R31). -/
structure LocalTime where
  sec : Nat
  ns : Nat
  deriving DecidableEq, Repr

/-! ### Timebase (ch2) -/

/-- Section 2.4. -/
inductive TbState where
  | free | acquiring | locked | holdover
  deriving DecidableEq, Repr

/-- R34: PPS tolerance and step limit in ns, holdover limit in s. -/
structure TbSettings where
  tolerance : Nat
  stepLimit : Nat
  holdoverLimit : Nat
  deriving DecidableEq, Repr

/-- R34: the staged settings. -/
structure TbStaged where
  tolerance : Option Nat
  stepLimit : Option Nat
  holdoverLimit : Option Nat
  deriving DecidableEq, Repr

/-- Section 2.4's state of the timebase. `sinceCapture` and `inHoldover` count reference periods. -/
structure Timebase where
  state : TbState
  good : Nat
  bad : Nat
  prevCapture : Option LocalTime
  sinceCapture : Nat
  inHoldover : Nat
  inForce : TbSettings
  staged : TbStaged
  armed : Option Nat
  deriving DecidableEq, Repr

/-! ### Registry (ch1) -/

/-- R1. -/
inductive StreamClass where
  | member | guest
  deriving DecidableEq, Repr

/-- Section 1.2. -/
inductive RecState where
  | free | pending | active | silent | recovering | suspended | retiring
  deriving DecidableEq, Repr

/-- R94. -/
inductive ClockState where
  | locked | unlocked
  deriving DecidableEq, Repr

/-- R2: τ and ρ in µs. -/
structure Options where
  rotate : Bool
  tau : Nat
  rho : Nat
  filterN : Nat
  silenceLimit : Nat
  qualityLimit : Nat
  watchMask : BitVec 16
  causeEnable : CauseSet
  deriving DecidableEq, Repr

/-- R23: a partial set of the fields that may be staged. -/
structure Amendment where
  cls : Option StreamClass
  rotate : Option Bool
  tau : Option Nat
  rho : Option Nat
  filterN : Option Nat
  silenceLimit : Option Nat
  qualityLimit : Option Nat
  watchMask : Option (BitVec 16)
  deriving DecidableEq, Repr

/-- R4: the nine counters of a record. -/
structure RecordCounters where
  placed : Nat
  late : Nat
  duplicate : Nat
  decimated : Nat
  misaligned : Nat
  ahead : Nat
  shape : Nat
  refused : Nat
  idle : Nat
  deriving DecidableEq, Repr

/-- A stream record (R1 to R4); its index is its place in `State.records`. -/
structure Record where
  state : RecState
  streamId : Nat
  cls : StreamClass
  rs : Nat
  tb : Nat
  p : Nat
  a : Nat
  opts : Options
  amend : Option Amendment
  history : List Nat
  filtered : Option Nat
  clock : ClockState
  disagree : Nat
  silence : Nat
  recovery : Nat
  held : Nat
  causes : CauseSet
  counters : RecordCounters
  deriving DecidableEq, Repr

/-- The defaults of R2; the cause enable is SILENT, RECOVERED, CLOCK (bits 0 to 2 of ch11's set). -/
def Options.default : Options :=
  { rotate := false, tau := 100, rho := 0, filterN := 4, silenceLimit := 100, qualityLimit := 15,
    watchMask := 0, causeEnable := 0b000111 }

/-- All nine counters 0. -/
def RecordCounters.zero : RecordCounters :=
  { placed := 0, late := 0, duplicate := 0, decimated := 0, misaligned := 0, ahead := 0, shape := 0,
    refused := 0, idle := 0 }

/-- R5: a FREE record. -/
def Record.vacant : Record :=
  { state := .free, streamId := 0, cls := .member, rs := 0, tb := 0, p := 0, a := 0,
    opts := Options.default, amend := none, history := [], filtered := none, clock := .locked,
    disagree := 0, silence := 0, recovery := 0, held := 0, causes := 0, counters := RecordCounters.zero }

/-- What REGISTER STREAM gives a record (R16, R18). -/
structure Registration where
  streamId : Nat
  cls : StreamClass
  rs : Nat
  tb : Nat
  p : Nat
  a : Nat
  opts : Options
  deriving DecidableEq, Repr

/-- R11: a directory edit in flight. -/
inductive Edit where
  | insertion (index : Nat) (what : Registration)
  | removal (streamId index : Nat)
  deriving DecidableEq, Repr

/-! ### Intake (ch3) -/

/-- R51: what the FIFO keeps of a frame. -/
structure QueuedFrame where
  bytes : List Byte
  length : Nat
  arrival : LocalTime
  deriving DecidableEq, Repr

/-! ### Alignment window (ch6) -/

/-- A phasor as carried on the wire (R191). -/
structure Phasor where
  magnitude : BitVec 16
  angle : BitVec 16
  deriving DecidableEq, Repr

/-- The measured data of a frame (R82, R111). -/
structure Measured where
  phasors : List Phasor
  freqDev : BitVec 16
  rocof : BitVec 16
  analogs : List (BitVec 16)
  digital : BitVec 16
  deriving DecidableEq, Repr

/-- R76. -/
inductive AlignFlag where
  | snapped | rotated
  deriving DecidableEq, Repr

/-- R111: `residual` is δns, `latency` is L in µs. That the entry holds no SOC, which R69 keeps "for the entry", is the
model's choice (log 25). -/
structure Entry where
  index : Nat
  streamId : Nat
  align : AlignFlag
  suspect : Bool
  extra : Bool
  flags : BitVec 16
  residual : Int
  latency : Nat
  data : Measured
  deriving DecidableEq, Repr

/-- R124. -/
inductive ReleaseCause where
  | complete | deadline | windowFull | flush
  deriving DecidableEq, Repr

/-- R109: OPEN, or DUE with the release cause set once. -/
inductive SlotStatus where
  | opened
  | due (cause : ReleaseCause)
  deriving DecidableEq, Repr

/-- R109. `expected` holds (record index, noted stream ID), `entries` ascending record indices. -/
structure Slot where
  epoch : Epoch
  status : SlotStatus
  tbState : TbState
  wait : Nat
  deadline : LocalTime
  snapshot : Nat
  expected : List (Nat × Nat)
  entries : List Entry
  deriving DecidableEq, Repr

/-- R115 and R169: the run's newest epoch and the W its slot was given. -/
structure Newest where
  epoch : Epoch
  wait : Nat
  deriving DecidableEq, Repr

/-! ### Release logic (ch7) and egress (ch8) -/

/-- R130. -/
inductive RunState where
  | stopped | running | draining
  deriving DecidableEq, Repr

/-- R136. -/
inductive WaitMode where
  | fixed | adaptive
  deriving DecidableEq, Repr

/-- R136: the alignment settings. -/
structure AlignSettings where
  rout : Nat
  f0 : Nat
  mode : WaitMode
  wFixed : Nat
  wMin : Nat
  wMax : Nat
  margin : Nat
  deriving DecidableEq, Repr

/-- R149: the eight engine counters. -/
structure EngineCounters where
  sets : Nat
  complete : Nat
  deadline : Nat
  windowFull : Nat
  flush : Nat
  skipped : Nat
  dropped : Nat
  unknown : Nat
  deriving DecidableEq, Repr

/-- All eight 0 (R149). -/
def EngineCounters.zero : EngineCounters :=
  { sets := 0, complete := 0, deadline := 0, windowFull := 0, flush := 0, skipped := 0, dropped := 0, unknown := 0 }

/-- R158, R159: an entry of an aligned set. -/
inductive SetEntry where
  | present (e : Entry)
  | absent (index streamId : Nat)
  deriving DecidableEq, Repr

/-- R157. -/
structure SetHeader where
  epoch : Epoch
  rout : Nat
  cause : ReleaseCause
  tbState : TbState
  wait : Nat
  expectedCount : Nat
  memberCount : Nat
  guestCount : Nat
  entryCount : Nat
  deriving DecidableEq, Repr

/-- ch8: an aligned set. -/
structure AlignedSet where
  header : SetHeader
  entries : List SetEntry
  deriving DecidableEq, Repr

/-! ### Management port (ch9) -/

/-- R162: what the queue keeps of a command message; `len` is the declared body length. -/
structure Message where
  kind : Byte
  tag : Byte
  len : Nat
  body : List Byte
  deriving DecidableEq, Repr

/-- R165. -/
inductive Status where
  | done | deferred | state | range | rate | exist | full | notFound | malformed
  deriving DecidableEq, Repr

/-- R169: READ ENGINE's return fields. -/
structure EngineReport where
  run : RunState
  tbState : TbState
  openSlots : Nat
  dueSlots : Nat
  occupancy : Nat
  freeRecords : Nat
  newestWait : Option Nat
  settings : AlignSettings
  tbSettings : TbSettings
  mask : CauseSet
  counters : EngineCounters
  deriving DecidableEq, Repr

/-- The return fields of an answer (ch9, R194). -/
inductive ReturnFields where
  | none
  /-- R169. -/
  | engine (r : EngineReport)
  /-- R44. -/
  | time (t : LocalTime) (tb : TbState) (armed : Option Nat)
  /-- R189: the engine causes taken. -/
  | causes (c : CauseSet)
  /-- R175's record index, and R138's offending index. -/
  | index (i : Nat)
  /-- R14. -/
  | lookup (i : Nat) (st : RecState)
  /-- R15, R178. -/
  | pairs (ps : List (Nat × Nat)) (more : Bool)
  /-- R179: the index and the record's whole content. -/
  | stream (i : Nat) (r : Record)
  /-- R180 with the found flag set: index, stream ID, causes taken. -/
  | taken (i streamId : Nat) (c : CauseSet)
  /-- R180 with the found flag clear. -/
  | noneFound
  deriving DecidableEq, Repr

/-- R165: an answer message. -/
structure Answer where
  kind : Byte
  tag : Byte
  status : Status
  ret : ReturnFields
  deriving DecidableEq, Repr

/-- R164: at most one command is in progress: its edit is in flight, or its answer is being sent. -/
inductive MgmtPort where
  | idle
  | editing (kind tag : Byte) (edit : Edit)
  | answering (a : Answer)
  deriving DecidableEq, Repr

/-- The whole block. -/
structure State where
  pending : List Instr
  periods : Nat
  resetAsserted : Bool
  ready : Bool
  time : LocalTime
  tb : Timebase
  nextEpoch : Option Epoch
  records : List Record
  directory : List (Nat × Nat)
  fifo : List QueuedFrame
  handling : Option QueuedFrame
  window : List Slot
  newest : Option Newest
  run : RunState
  settings : AlignSettings
  emission : Option Slot
  counters : EngineCounters
  egress : List AlignedSet
  transmitting : Bool
  reception : List Byte
  queue : List Message
  port : MgmtPort
  causes : CauseSet
  mask : CauseSet
  scanPtr : Nat
  deriving DecidableEq, Repr

/-- R34: the timebase after power-on. -/
def Timebase.reset : Timebase :=
  { state := .free, good := 0, bad := 0, prevCapture := none, sinceCapture := 0, inHoldover := 0,
    inForce := { tolerance := 2000, stepLimit := 1000, holdoverLimit := 600 },
    staged := { tolerance := none, stepLimit := none, holdoverLimit := none }, armed := none }

/-- R136: the default alignment settings. -/
def AlignSettings.reset : AlignSettings :=
  { rout := 50, f0 := 50, mode := .adaptive, wFixed := 500000, wMin := 20000, wMax := 2000000, margin := 32 }

/-- The machine right after reset: every field at the value its rule gives for power-on, the reset input released
(log 7). The consumer's ready level (log 8) and `periods` (log 19) are the model's. -/
def State.reset : State :=
  { pending := [], periods := 0, resetAsserted := false, ready := false,
    time := { sec := 0, ns := 0 }, tb := Timebase.reset, nextEpoch := none,
    records := List.replicate Config.recordCount Record.vacant, directory := [],
    fifo := [], handling := none, window := [], newest := none, run := .stopped, settings := AlignSettings.reset,
    emission := none, counters := EngineCounters.zero, egress := [], transmitting := false,
    reception := [], queue := [], port := .idle, causes := 0, mask := 0b111111, scanPtr := 1023 }

end Sys2Proof.Machine
end

