-- ==== Sys2Proof/Machine/Flags.lean ====
section
/-! DEFINITION. Causes, attention lines, status flags and counters: what raises, gathers and shows them
(ch10, ch11's code table, R62, R148, R149). -/

namespace Sys2Proof.Machine

/-! ### Cause bits (ch11) -/

/-- ch11: stream cause bit 0. -/
def StreamCause.silent : CauseSet := 0b000001
/-- ch11: stream cause bit 1. -/
def StreamCause.recovered : CauseSet := 0b000010
/-- ch11: stream cause bit 2. -/
def StreamCause.clock : CauseSet := 0b000100
/-- ch11: stream cause bit 3. -/
def StreamCause.watch : CauseSet := 0b001000
/-- ch11: stream cause bit 4. -/
def StreamCause.misalign : CauseSet := 0b010000
/-- ch11: stream cause bit 5. -/
def StreamCause.late : CauseSet := 0b100000

/-- ch11: engine cause bit 0. -/
def EngineCause.tbState : CauseSet := 0b000001
/-- ch11: engine cause bit 1. -/
def EngineCause.epochSkipped : CauseSet := 0b000010
/-- ch11: engine cause bit 2. -/
def EngineCause.windowFull : CauseSet := 0b000100
/-- ch11: engine cause bit 3. -/
def EngineCause.ingressDrop : CauseSet := 0b001000
/-- ch11: engine cause bit 4. -/
def EngineCause.unknownId : CauseSet := 0b010000
/-- ch11: engine cause bit 5. -/
def EngineCause.drained : CauseSet := 0b100000

/-- R104: raising a stream cause adds it to the record's pending set. -/
def Record.raise (c : CauseSet) (r : Record) : Record := { r with causes := r.causes ||| c }

/-- R187: raising an engine cause adds it to the pending set. -/
def State.raise (c : CauseSet) (s : State) : State := { s with causes := s.causes ||| c }

/-! ### Attention lines -/

/-- The causes of a record that are pending and enabled (R183, R185). -/
def Record.attention (r : Record) : CauseSet := r.causes &&& r.opts.causeEnable

/-- ATTN_S (R183; both lines are deasserted while the reset input is asserted, R190). -/
def State.attnS (s : State) : Bool := !s.resetAsserted && s.records.any (fun r => r.attention != 0)

/-- ATTN_E (R188, R190). -/
def State.attnE (s : State) : Bool := !s.resetAsserted && (s.causes &&& s.mask) != 0

/-- The management link's ready indication: a message in reception is taken to its end, and one begins only while the
queue holds fewer than 8 (R163, R167). -/
def State.mgmtReady (s : State) : Bool :=
  !s.resetAsserted && (s.reception != [] || s.queue.length < Config.queueCapacity)

/-! ### Status flags of a frame (ch11) -/

/-- ch11: bit 14 of the status flags. -/
def syncLost (flags : BitVec 16) : Bool := flags.getLsbD 14
/-- ch11: bit 13 of the status flags. -/
def freqInvalid (flags : BitVec 16) : Bool := flags.getLsbD 13

/-! ### Saturating counters (ch0 "Counters") -/

/-- A counter increased by `n`, staying at 4,294,967,295 once there. -/
def satAdd (c n : Nat) : Nat := min (c + n) Config.counterMax

/-- The record counter named after a disposition (R4, R62). -/
inductive RecCounter where
  | placed | late | duplicate | decimated | misaligned | ahead | shape | refused | idle
  deriving DecidableEq, Repr

/-- R62: the named counter increases by 1. -/
def RecordCounters.bump (c : RecordCounters) : RecCounter → RecordCounters
  | .placed => { c with placed := satAdd c.placed 1 }
  | .late => { c with late := satAdd c.late 1 }
  | .duplicate => { c with duplicate := satAdd c.duplicate 1 }
  | .decimated => { c with decimated := satAdd c.decimated 1 }
  | .misaligned => { c with misaligned := satAdd c.misaligned 1 }
  | .ahead => { c with ahead := satAdd c.ahead 1 }
  | .shape => { c with shape := satAdd c.shape 1 }
  | .refused => { c with refused := satAdd c.refused 1 }
  | .idle => { c with idle := satAdd c.idle 1 }

/-- R62 on a record. -/
def Record.count (which : RecCounter) (r : Record) : Record := { r with counters := r.counters.bump which }

/-- R148: SETS and the counter of the set's release cause increase together. -/
def EngineCounters.bumpSet (c : EngineCounters) : ReleaseCause → EngineCounters
  | .complete => { c with sets := satAdd c.sets 1, complete := satAdd c.complete 1 }
  | .deadline => { c with sets := satAdd c.sets 1, deadline := satAdd c.deadline 1 }
  | .windowFull => { c with sets := satAdd c.sets 1, windowFull := satAdd c.windowFull 1 }
  | .flush => { c with sets := satAdd c.sets 1, flush := satAdd c.flush 1 }

/-- R53: a frame dropped at a full FIFO. -/
def State.countDropped (s : State) : State :=
  { s with counters := { s.counters with dropped := satAdd s.counters.dropped 1 } }

/-- R57: a frame whose stream ID is not in the directory. -/
def State.countUnknown (s : State) : State :=
  { s with counters := { s.counters with unknown := satAdd s.counters.unknown 1 } }

/-- R48, R114: `n` epochs are skipped: SKIPPED rises by `n`, and EPOCH_SKIPPED is raised if there is one. -/
def State.skipEpochs (n : Nat) (s : State) : State :=
  if n = 0 then s
  else ({ s with counters := { s.counters with skipped := satAdd s.counters.skipped n } }).raise
    EngineCause.epochSkipped

end Sys2Proof.Machine
end

