-- ==== Sys2Proof/Machine/Operands.lean ====
section
/-! DEFINITION. The operand forms of command messages: byte order, fixed fields, item lists and their ranges
(ch9 sections 9.1 and 9.4, ch11). -/

namespace Sys2Proof.Machine

/-! ### Byte order: most significant byte first (ch0, ch11) -/

/-- The number a run of bytes spells. -/
def beNat (bs : List Byte) : Nat := bs.foldl (fun acc b => acc * 256 + b.toNat) 0

/-- A number in `n` bytes. -/
def beBytes : Nat → Nat → List Byte
  | 0, _ => []
  | n + 1, v => BitVec.ofNat 8 (v / 256 ^ n) :: beBytes n v

/-- The field of `size` bytes at offset `at`. -/
def fieldAt (bs : List Byte) (offset size : Nat) : Nat := beNat ((bs.drop offset).take size)

/-- R162, R193: what the queue keeps of the message that the bytes in reception spell: a header of kind, tag and body
length, and then the body; none while a byte of the header or of the declared body is still to come. -/
def Message.ofWire : List Byte → Option Message
  | kind :: tag :: len :: body =>
    if len.toNat ≤ body.length then
      some { kind, tag, len := len.toNat, body := (body.take len.toNat).take Config.keptBodyBytes }
    else none
  | _ => none

/-! ### Item lists (section 9.4) -/

/-- An item of a list: its code and its value. -/
abbrev Item := Nat × Nat

/-- Section 9.4's table: the size in bytes of each code's value; none for a code not in the table. -/
def itemSize : Nat → Option Nat
  | 1 | 2 | 5 | 6 | 7 | 9 | 10 | 12 | 13 | 16 | 17 | 18 | 22 => some 1
  | 3 | 4 | 8 | 26 => some 2
  | 11 => some 3
  | 19 | 20 | 21 | 24 | 25 => some 4
  | _ => none

/-- Whether a list of items holds the code. -/
def hasCode (code : Nat) (items : List Item) : Bool := items.any (fun i => i.1 == code)

/-- R168's reading of a list, item by item; none where it is malformed (`fuel` at least the list's length). -/
def parseItemsFuel : Nat → List Byte → Option (List Item)
  | _, [] => some []
  | 0, _ :: _ => none
  | fuel + 1, code :: rest =>
    match itemSize code.toNat with
    | none => none
    | some size =>
      if rest.length < size then none
      else
        match parseItemsFuel fuel (rest.drop size) with
        | none => none
        | some items =>
          if hasCode code.toNat items then none else some ((code.toNat, beNat (rest.take size)) :: items)

/-- R168: the items of a list whose codes all lie in `lo` to `hi`; none where the list is malformed. -/
def parseItems (lo hi : Nat) (bs : List Byte) : Option (List Item) :=
  match parseItemsFuel bs.length bs with
  | none => none
  | some items => if items.all (fun i => lo ≤ i.1 && i.1 ≤ hi) then some items else none

/-- The value of a code, if the list names it. -/
def itemValue (code : Nat) (items : List Item) : Option Nat :=
  (items.find? (fun i => i.1 == code)).map (·.2)

/-- Rs, R1. -/
def streamRates : List Nat := [10, 20, 25, 30, 50, 60, 100, 120, 200, 240]

/-- Rout, R136. -/
def outputRates : List Nat := [10, 20, 25, 30, 50, 60, 100, 120]

/-- Section 9.4's ranges. -/
def itemInRange : Item → Bool
  | (1, v) => v ≤ 1
  | (2, v) => v ≤ 1
  | (3, v) => v ≤ 5000
  | (4, v) => v ≤ 10000
  | (5, v) => [1, 2, 4, 8].contains v
  | (6, v) => 2 ≤ v && v ≤ 255
  | (7, v) => v ≤ 15
  | (8, v) => v ≤ 65535
  | (9, v) => v ≤ 63
  | (16, v) => outputRates.contains v
  | (17, v) => v == 50 || v == 60
  | (18, v) => v ≤ 1
  | (19, v) => 1000 ≤ v && v ≤ 10000000
  | (20, v) => 1000 ≤ v && v ≤ 10000000
  | (21, v) => 1000 ≤ v && v ≤ 10000000
  | (22, v) => v ≤ 127
  | (24, v) => 100 ≤ v && v ≤ 100000
  | (25, v) => 100 ≤ v && v ≤ 100000
  | (26, v) => 1 ≤ v && v ≤ 3600
  | _ => false

/-- Item code 1 and REGISTER STREAM's class byte. -/
def classOf (v : Nat) : StreamClass := if v = 0 then .member else .guest

/-- Item code 18. -/
def modeOf (v : Nat) : WaitMode := if v = 0 then .fixed else .adaptive

/-- R2, R18: options from a list, the defaults where the list leaves one out. -/
def Options.ofItems (items : List Item) : Options :=
  let d := Options.default
  { rotate := ((itemValue 2 items).map (· == 1)).getD d.rotate
    tau := (itemValue 3 items).getD d.tau
    rho := (itemValue 4 items).getD d.rho
    filterN := (itemValue 5 items).getD d.filterN
    silenceLimit := (itemValue 6 items).getD d.silenceLimit
    qualityLimit := (itemValue 7 items).getD d.qualityLimit
    watchMask := ((itemValue 8 items).map (BitVec.ofNat 16)).getD d.watchMask
    causeEnable := ((itemValue 9 items).map (BitVec.ofNat 6)).getD d.causeEnable }

/-- R21, R22: the fields of an AMEND STREAM that may be staged (all but the cause enable). -/
def Amendment.ofItems (items : List Item) : Amendment :=
  { cls := (itemValue 1 items).map classOf
    rotate := (itemValue 2 items).map (· == 1)
    tau := itemValue 3 items
    rho := itemValue 4 items
    filterN := itemValue 5 items
    silenceLimit := itemValue 6 items
    qualityLimit := itemValue 7 items
    watchMask := (itemValue 8 items).map (BitVec.ofNat 16) }

/-- R138: the settings a CONFIGURE ALIGNMENT would leave in force. -/
def AlignSettings.withItems (items : List Item) (s : AlignSettings) : AlignSettings :=
  { rout := (itemValue 16 items).getD s.rout
    f0 := (itemValue 17 items).getD s.f0
    mode := ((itemValue 18 items).map modeOf).getD s.mode
    wFixed := (itemValue 19 items).getD s.wFixed
    wMin := (itemValue 20 items).getD s.wMin
    wMax := (itemValue 21 items).getD s.wMax
    margin := (itemValue 22 items).getD s.margin }

/-- R34: a named setting replaces the staged one, an unnamed one keeps it. -/
def TbStaged.withItems (items : List Item) (g : TbStaged) : TbStaged :=
  { tolerance := (itemValue 24 items).or g.tolerance
    stepLimit := (itemValue 25 items).or g.stepLimit
    holdoverLimit := (itemValue 26 items).or g.holdoverLimit }

/-- The fixed part of REGISTER STREAM (R175) with its options. -/
def Registration.ofBody (body : List Byte) (items : List Item) : Registration :=
  { streamId := fieldAt body 0 4
    cls := classOf (fieldAt body 4 1)
    rs := fieldAt body 5 1
    tb := fieldAt body 6 3
    p := fieldAt body 9 1
    a := fieldAt body 10 1
    opts := Options.ofItems items }

/-- R16, check 1, over the fixed part: stream ID not 0, class, Rs, TB, p and a within the ranges of R1. -/
def fixedPartInRange (body : List Byte) : Bool :=
  fieldAt body 0 4 != 0 && fieldAt body 4 1 ≤ 1 && streamRates.contains (fieldAt body 5 1)
    && 1 ≤ fieldAt body 6 3 && fieldAt body 9 1 ≤ 12 && fieldAt body 10 1 ≤ 4

end Sys2Proof.Machine
end

