-- ==== Sys2Proof/Machine/Ops.lean ====
section
/-! DEFINITION. The operations several commands share: local time and epochs, records and directory, slots and the
expected set, beginning an emission or a transmission, the end of a drain, starting and answering a command. -/

namespace Sys2Proof

namespace Machine

/-! ### Local time (R31, R32) -/

/-- R31: `a` is earlier than `b`. -/
abbrev LocalTime.before (a b : LocalTime) : Prop := a.sec < b.sec ∨ (a.sec = b.sec ∧ a.ns < b.ns)

/-- `a` lies at or before `b`. -/
abbrev LocalTime.atOrBefore (a b : LocalTime) : Prop := a.sec < b.sec ∨ (a.sec = b.sec ∧ a.ns ≤ b.ns)

/-- R31: the second after `sec`, wrapping at the end of the range. -/
def nextSec (sec : Nat) : Nat := if sec = Config.maxSec then 0 else sec + 1

/-- R31: one period of the reference clock. -/
def LocalTime.advance (t : LocalTime) : LocalTime :=
  if t.ns + Config.periodNs < Config.nsPerSec then { sec := t.sec, ns := t.ns + Config.periodNs }
  else { sec := nextSec t.sec, ns := 0 }

/-- The nearest integer to `num / den`, a value exactly halfway going away from zero (ch0 "Division and rounding"). -/
def roundHalfAway (num : Int) (den : Nat) : Int :=
  let q : Int := ((2 * num.natAbs + den) / (2 * den) : Nat)
  if num < 0 then -q else q

/-- R32: local time corrected by `d` ns (at most one second either way), the seconds wrapping as in R31. -/
def LocalTime.shift (d : Int) (t : LocalTime) : LocalTime :=
  let v := (t.ns : Int) + d
  { sec := (((t.sec : Int) + v / (Config.nsPerSec : Int)) % ((Config.maxSec : Int) + 1)).toNat
    ns := (v % (Config.nsPerSec : Int)).toNat }

end Machine

/-! ### Epochs (ch0 "Epochs", section 2.6) -/

/-- The epoch's order key at output rate `rout`. -/
def Epoch.key (rout : Nat) (e : Epoch) : Nat := e.sec * rout + e.k

/-- Nanoseconds of the epoch's instant within its second. -/
def Epoch.instantNs (rout : Nat) (e : Epoch) : Nat := e.k * Config.nsPerSec / rout

/-- The epoch's instant as a local time. -/
def Epoch.instant (rout : Nat) (e : Epoch) : Machine.LocalTime := { sec := e.sec, ns := e.instantNs rout }

/-- R46: the epoch after `e`; none past the end of the seconds range. -/
def Epoch.succ (rout : Nat) (e : Epoch) : Option Epoch :=
  if e.k + 1 < rout then some { sec := e.sec, k := e.k + 1 }
  else if e.sec < Config.maxSec then some { sec := e.sec + 1, k := 0 }
  else none

namespace Machine

/-- R48: the last epoch whose instant lies at or before `t` (k is the greatest with floor(k × 10⁹ / Rout) ≤ n). -/
def latestEpoch (rout : Nat) (t : LocalTime) : Epoch :=
  { sec := t.sec, k := ((t.ns + 1) * rout - 1) / Config.nsPerSec }

/-- R45: the first epoch whose instant lies strictly after `t`. -/
def firstEpochAfter (rout : Nat) (t : LocalTime) : Option Epoch := (latestEpoch rout t).succ rout

/-- R17: the larger rate is a whole multiple of the smaller. -/
def rateCompatible (rs rout : Nat) : Bool := if rout ≤ rs then rs % rout == 0 else rout % rs == 0

/-- R75: whether a stream of rate `rs` is rate-expected at epoch index `k`. -/
def rateExpected (rs rout k : Nat) : Bool := rout ≤ rs || k * rs % rout == 0

/-! ### Records and directory -/

/-- The record at an index. -/
def State.record (s : State) (i : Nat) : Record := s.records.getD i Record.vacant

/-- The record at an index is replaced. -/
def State.setRecord (i : Nat) (r : Record) (s : State) : State := { s with records := s.records.set i r }

/-- Every record is changed by `f`, which is given its index. -/
def mapFrom (f : Nat → Record → Record) : Nat → List Record → List Record
  | _, [] => []
  | i, r :: rs => f i r :: mapFrom f (i + 1) rs

/-- Every record of the registry is changed by `f`. -/
def State.mapRecords (f : Nat → Record → Record) (s : State) : State :=
  { s with records := mapFrom f 0 s.records }

/-- R10: the five states whose records stand in the directory. -/
def RecState.inDirectory : RecState → Bool
  | .pending | .active | .silent | .recovering | .suspended => true
  | .free | .retiring => false

/-- R8, R57: the record index of a stream ID's directory pair. -/
def State.lookup (s : State) (id : Nat) : Option Nat := (s.directory.find? (fun p => p.1 == id)).map (·.2)

/-- R10: a pair is added, the list staying in ascending order of ID. -/
def insertPair (id i : Nat) : List (Nat × Nat) → List (Nat × Nat)
  | [] => [(id, i)]
  | p :: ps => if id < p.1 then (id, i) :: p :: ps else p :: insertPair id i ps

/-- R10: an ID's pair is removed. -/
def removePair (id : Nat) (ps : List (Nat × Nat)) : List (Nat × Nat) := ps.filter (fun p => p.1 != id)

/-! ### Filter and amendments -/

/-- R91: F over a history and a filter length. -/
def filteredLatency (n : Nat) (history : List Nat) : Option Nat :=
  if history.isEmpty then none
  else
    let m := min n history.length
    some ((history.drop (history.length - m)).sum / m)

/-- R23: a command's fields merged into a pending amendment, field by field. -/
def Amendment.merge (old new : Amendment) : Amendment :=
  { cls := new.cls.or old.cls
    rotate := new.rotate.or old.rotate
    tau := new.tau.or old.tau
    rho := new.rho.or old.rho
    filterN := new.filterN.or old.filterN
    silenceLimit := new.silenceLimit.or old.silenceLimit
    qualityLimit := new.qualityLimit.or old.qualityLimit
    watchMask := new.watchMask.or old.watchMask }

/-- The amendment that names no field (R22's start for a record with none). -/
def Amendment.empty : Amendment :=
  { cls := none, rotate := none, tau := none, rho := none, filterN := none, silenceLimit := none,
    qualityLimit := none, watchMask := none }

/-- R25: each field the amendment holds is written; an amended N recomputes F at once. -/
def Record.applyAmendment (m : Amendment) (r : Record) : Record :=
  { r with
    cls := m.cls.getD r.cls
    opts :=
      { r.opts with
        rotate := m.rotate.getD r.opts.rotate
        tau := m.tau.getD r.opts.tau
        rho := m.rho.getD r.opts.rho
        filterN := m.filterN.getD r.opts.filterN
        silenceLimit := m.silenceLimit.getD r.opts.silenceLimit
        qualityLimit := m.qualityLimit.getD r.opts.qualityLimit
        watchMask := m.watchMask.getD r.opts.watchMask }
    filtered :=
      match m.filterN with
      | some n => filteredLatency n r.history
      | none => r.filtered }

/-- R24: a directory record's pending amendment is applied and removed. -/
def Record.settleAmendment (r : Record) : Record :=
  match r.amend with
  | none => r
  | some m => if r.state.inDirectory then { r.applyAmendment m with amend := none } else r

/-! ### Slots (ch6) -/

/-- Whether the slot's map holds an entry for the index. -/
def Slot.hasEntry (i : Nat) (sl : Slot) : Bool := sl.entries.any (fun e => e.index == i)

/-- Whether the index is in the slot's expected set. -/
def Slot.expects (i : Nat) (sl : Slot) : Bool := sl.expected.any (fun m => m.1 == i)

/-- R121: complete as to its entries (the slot's being OPEN is the caller's test). -/
def Slot.isComplete (sl : Slot) : Bool := sl.snapshot != 0 && sl.expected.all (fun m => sl.hasEntry m.1)

/-- A slot becomes DUE; one that is DUE keeps its cause (R124). -/
def Slot.release (cause : ReleaseCause) (sl : Slot) : Slot :=
  match sl.status with
  | .opened => { sl with status := .due cause }
  | .due _ => sl

/-- R121: the test made when an entry is added or an index removed. -/
def Slot.testComplete (sl : Slot) : Slot := if sl.isComplete then sl.release .complete else sl

/-- R123 on one slot: an OPEN slot that expects the index and holds no entry for it loses it and is tested. -/
def Slot.dropExpected (i : Nat) (sl : Slot) : Slot :=
  if sl.status = .opened ∧ sl.expects i = true ∧ sl.hasEntry i = false then
    ({ sl with expected := sl.expected.filter (fun m => m.1 != i) }).testComplete
  else sl

/-- R20, R123: a record that leaves ACTIVE is removed from the expected set of every OPEN slot without its entry. -/
def State.leaveActive (i : Nat) (s : State) : State := { s with window := s.window.map (Slot.dropExpected i) }

/-- R142, R143: an OPEN slot whose deadline lies at or before `now` becomes DUE with DEADLINE. -/
def Slot.expire (now : LocalTime) (sl : Slot) : Slot :=
  if sl.deadline.atOrBefore now then sl.release .deadline else sl

/-! ### Emission, transmission, end of a drain -/

/-- R125, R30: a slot holding an entry of the record leaves the window. -/
def Record.releaseHeld (r : Record) : Record :=
  if r.state = .retiring ∧ r.held ≤ 1 then Record.vacant else { r with held := r.held - 1 }

/-- R144, R126: when the oldest slot is DUE, no emission is in flight and the buffer holds 3 sets or fewer, the slot
leaves the window, held counts fall and its emission is in flight. Otherwise nothing begins. -/
def State.beginEmission (s : State) : State :=
  match s.window with
  | [] => s
  | sl :: rest =>
    if sl.status ≠ .opened ∧ s.emission = none ∧ s.egress.length < Config.egressCapacity then
      { s with window := rest, emission := some sl }.mapRecords
        (fun i r => if sl.hasEntry i then r.releaseHeld else r)
    else s

/-- R152: when the buffer holds a set, no transmission is in flight and ready is asserted, one begins. -/
def State.beginTransmission (s : State) : State :=
  if s.egress ≠ [] ∧ s.transmitting = false ∧ s.ready = true then { s with transmitting := true } else s

/-- R134: a drain ends when the window holds no slot and no emission is in flight. -/
def State.endDrain (s : State) : State :=
  if s.run = .draining ∧ s.window = [] ∧ s.emission = none then
    { s with run := .stopped }.raise EngineCause.drained
  else s

/-! ### Taking a frame (R54, R55), starting and answering a command (R164, R165, R166) -/

/-- R164: whether a directory edit is in flight. -/
def State.editInFlight (s : State) : Bool :=
  match s.port with
  | .editing _ _ _ => true
  | .idle => false
  | .answering _ => false

/-- R54, R55: intake takes the oldest frame out of the FIFO when it handles none and no directory edit is in flight. The
test is made inside each event that can make it hold. -/
def State.takeFrame (s : State) : State :=
  match s.fifo with
  | [] => s
  | f :: rest =>
    if s.handling = none ∧ s.editInFlight = false then { s with handling := some f, fifo := rest } else s

/-- R165: the answer to `m` is built and its transmission begins. -/
def State.answer (m : Message) (status : Status) (ret : ReturnFields) (s : State) : State :=
  { s with port := .answering { kind := m.kind, tag := m.tag, status, ret } }

/-- R164: when no command is in progress and the oldest message is one that `starts` names, it leaves the queue and its
command is carried out by `body`; otherwise no command starts. -/
def State.startCommand (starts : Message → Bool) (body : Message → State → State) (s : State) : State :=
  match s.port, s.queue with
  | .idle, m :: rest => if starts m then body m { s with queue := rest } else s
  | _, _ => s

/-- Whether the message is of the kind. -/
def Message.isKind (kind : Nat) (m : Message) : Bool := m.kind.toNat == kind

/-- R166: a command whose body must have exactly `len` bytes, and else is answered MALFORMED. -/
def withLength (len : Nat) (body : Message → State → State) (m : Message) (s : State) : State :=
  if m.len = len then body m s else s.answer m .malformed .none

/-- R168: the item list of a message after its fixed part; none where the message is MALFORMED by its form. -/
def Message.items (fixed lo hi : Nat) (m : Message) : Option (List Item) :=
  if fixed ≤ m.len ∧ m.len ≤ Config.keptBodyBytes then parseItems lo hi (m.body.drop fixed) else none

/-- R8: a command that names a stream by ID (4 bytes at `offset`) acts on the record of its pair, and is answered
NOT_FOUND where there is none. -/
def withStream (offset : Nat) (body : Nat → Message → State → State) (m : Message) (s : State) : State :=
  match s.lookup (fieldAt m.body offset 4) with
  | none => s.answer m .notFound .none
  | some i => body i m s

end Machine

end Sys2Proof
end

