-- ==== Sys2Proof/Machine/Arithmetic.lean ====
section
/-! DEFINITION. Reading an ingress frame (R191) and the alignment arithmetic (ch4: R66 to R87). Every quantity is an
exact integer (R67). -/

namespace Sys2Proof.Machine

/-! ### The ingress frame (R51, R191) -/

/-- R51, R57: a frame's stream ID; a frame shorter than 4 bytes has ID 0. -/
def QueuedFrame.streamId (f : QueuedFrame) : Nat := if f.length < 4 then 0 else fieldAt f.bytes 0 4

/-- R191: SOC. -/
def QueuedFrame.soc (f : QueuedFrame) : Nat := fieldAt f.bytes 4 4
/-- R191: the time quality code, bits 3 to 0 of its byte. -/
def QueuedFrame.quality (f : QueuedFrame) : Nat := fieldAt f.bytes 8 1 % 16
/-- R191: FRAC. -/
def QueuedFrame.frac (f : QueuedFrame) : Nat := fieldAt f.bytes 9 3
/-- R191: the 16 status flags. -/
def QueuedFrame.flags (f : QueuedFrame) : BitVec 16 := BitVec.ofNat 16 (fieldAt f.bytes 12 2)
/-- R191: the frame's own phasor count, a whole byte. -/
def QueuedFrame.p (f : QueuedFrame) : Nat := fieldAt f.bytes 14 1
/-- R191: the frame's own analog count, a whole byte. -/
def QueuedFrame.a (f : QueuedFrame) : Nat := fieldAt f.bytes 15 1

/-- R191: the phasor at place `i` of the list. -/
def QueuedFrame.phasor (f : QueuedFrame) (i : Nat) : Phasor :=
  { magnitude := BitVec.ofNat 16 (fieldAt f.bytes (16 + 4 * i) 2)
    angle := BitVec.ofNat 16 (fieldAt f.bytes (18 + 4 * i) 2) }

/-- R191: the measured data at the offsets that counts `p` and `a` give. -/
def QueuedFrame.measured (f : QueuedFrame) (p a : Nat) : Measured :=
  { phasors := (List.range p).map f.phasor
    freqDev := BitVec.ofNat 16 (fieldAt f.bytes (16 + 4 * p) 2)
    rocof := BitVec.ofNat 16 (fieldAt f.bytes (18 + 4 * p) 2)
    analogs := (List.range a).map (fun i => BitVec.ofNat 16 (fieldAt f.bytes (20 + 4 * p + 2 * i) 2))
    digital := BitVec.ofNat 16 (fieldAt f.bytes (20 + 4 * p + 2 * a) 2) }

/-- R59: the frame has the shape the record was registered with. -/
def QueuedFrame.fits (f : QueuedFrame) (r : Record) : Bool :=
  f.length == 22 + 4 * r.p + 2 * r.a && f.p == r.p && f.a == r.a && f.frac < r.tb

/-! ### Stages 1 to 3: grid index, residual, output epoch -/

/-- R68: the stream grid index j before any wrap (j′). -/
def gridIndex (frac rs tb : Nat) : Nat := (2 * frac * rs + tb) / (2 * tb)

/-- R69: the epoch second. -/
def epochSecond (soc frac rs tb : Nat) : Nat := if gridIndex frac rs tb = rs then nextSec soc else soc

/-- R69: j after the wrap. -/
def wrappedIndex (frac rs tb : Nat) : Nat := if gridIndex frac rs tb = rs then 0 else gridIndex frac rs tb

/-- R70: the residual r, in units of 1/(TB × Rs) s. -/
def residualUnits (frac rs tb : Nat) : Int := (frac * rs : Nat) - (gridIndex frac rs tb * tb : Nat)

/-- R71: the residual δns. -/
def residualNs (frac rs tb : Nat) : Int :=
  roundHalfAway (residualUnits frac rs tb * (Config.nsPerSec : Int)) (tb * rs)

/-- R72, R73: the output epoch index of grid index `j`; none where the frame is DECIMATED. -/
def outputIndex (rs rout j : Nat) : Option Nat :=
  if rout ≤ rs then if j % (rs / rout) = 0 then some (j / (rs / rout)) else none
  else some (j * (rout / rs))

/-! ### Stages 4 and 5: snap or rotate -/

/-- R76: the alignment flag of a residual; none where the frame is MISALIGNED. -/
def alignFlag (o : Options) (delta : Int) : Option AlignFlag :=
  if delta.natAbs ≤ o.tau * 1000 then some .snapped
  else if o.rotate = true ∧ delta.natAbs ≤ o.rho * 1000 then some .rotated
  else none

/-- R79: the frequency deviation used, in mHz. -/
def usedDeviation (flags freqDev : BitVec 16) : Int :=
  if freqInvalid flags then 0 else max (-5000) (min freqDev.toInt 5000)

/-- R79, R80: the angle correction Δθ of a ROTATED frame. -/
def angleCorrection (f0 : Nat) (delta : Int) (flags freqDev : BitVec 16) : Int :=
  roundHalfAway (-delta * ((f0 : Int) * 1000 + usedDeviation flags freqDev) * 65536) 1000000000000

/-- R81: every phasor's angle is turned by Δθ modulo 65,536, and nothing else (R82). -/
def Measured.rotate (dtheta : Int) (m : Measured) : Measured :=
  { m with phasors := m.phasors.map (fun ph => { ph with angle := ph.angle + BitVec.ofInt 16 dtheta }) }

/-- R80, R81: the data a frame of the given alignment flag hands on. -/
def alignedData (f0 : Nat) (flag : AlignFlag) (delta : Int) (flags : BitVec 16) (m : Measured) : Measured :=
  match flag with
  | .snapped => m
  | .rotated => m.rotate (angleCorrection f0 delta flags m.freqDev)

/-! ### Stage 6: latency (R83, R84) -/

/-- R83: the frame's instant within its second, in ns. -/
def frameInstant (frac tb : Nat) : Nat := frac * Config.nsPerSec / tb

/-- R84: the latency in ns, to the arrival the frame was stamped with (log 23). -/
def latencyNs (soc frac tb : Nat) (arrival : LocalTime) : Int :=
  ((arrival.sec : Int) - (soc : Int)) * (Config.nsPerSec : Int) + (arrival.ns : Int) - (frameInstant frac tb : Int)

/-- R84: the latency L in µs. -/
def latencyUs (soc frac tb : Nat) (arrival : LocalTime) : Nat :=
  min ((latencyNs soc frac tb arrival).toNat / 1000) Config.latencyMax

/-! ### The whole arithmetic (R86) -/

/-- What the arithmetic hands to the window (R86), the frame's SOC not among it (log 25). -/
structure Aligned where
  epoch : Epoch
  flag : AlignFlag
  residual : Int
  latency : Nat
  flags : BitVec 16
  quality : Nat
  data : Measured
  deriving DecidableEq, Repr

/-- How the arithmetic ends for a frame. -/
inductive ArithResult where
  | decimated
  | misaligned
  | aligned (al : Aligned)
  deriving DecidableEq, Repr

/-- Stages 1 to 6 for a frame of a record, at the alignment settings in force. -/
def align (g : AlignSettings) (r : Record) (f : QueuedFrame) : ArithResult :=
  match outputIndex r.rs g.rout (wrappedIndex f.frac r.rs r.tb) with
  | none => .decimated
  | some k =>
    match alignFlag r.opts (residualNs f.frac r.rs r.tb) with
    | none => .misaligned
    | some flag =>
      .aligned
        { epoch := { sec := epochSecond f.soc f.frac r.rs r.tb, k }
          flag
          residual := residualNs f.frac r.rs r.tb
          latency := latencyUs f.soc f.frac r.tb f.arrival
          flags := f.flags
          quality := f.quality
          data := alignedData g.f0 flag (residualNs f.frac r.rs r.tb) f.flags (f.measured r.p r.a) }

end Sys2Proof.Machine
end

