-- ==== Sys2Proof/Machine/Health.lean ====
section
/-! DEFINITION. What a PLACED or LATE frame teaches its record (ch5: R88 to R101, and R19's promotion). -/

namespace Sys2Proof.Machine

/-- R19, R63 step 1: a PENDING record becomes ACTIVE. -/
def Record.promote (r : Record) : Record := if r.state = .pending then { r with state := .active } else r

/-- R90, R91: the latency joins the history at the newest end, the oldest of 8 leaving first, and F is recomputed. -/
def Record.learnLatency (latency : Nat) (r : Record) : Record :=
  let kept := if r.history.length < Config.historyCapacity then r.history else r.history.drop 1
  { r with history := kept ++ [latency], filtered := filteredLatency r.opts.filterN (kept ++ [latency]) }

/-- R93: the observation a frame makes of its station clock. -/
def Record.observation (flags : BitVec 16) (quality : Nat) (r : Record) : ClockState :=
  if syncLost flags = true ∨ r.opts.qualityLimit < quality then .unlocked else .locked

/-- R94: the clock state moves when two observations in a row disagree with it; each flip raises CLOCK. -/
def Record.observe (flags : BitVec 16) (quality : Nat) (r : Record) : Record :=
  if r.observation flags quality = r.clock then { r with disagree := 0 }
  else if r.disagree = 0 then { r with disagree := 1 }
  else { r with clock := r.observation flags quality, disagree := 0 }.raise StreamCause.clock

/-- R101: the silence count returns to 0, and a SILENT or RECOVERING record moves on toward ACTIVE. -/
def Record.hear (r : Record) : Record :=
  match r.state with
  | .silent => { r with silence := 0, state := .recovering, recovery := 1 }
  | .recovering => { r with silence := 0, state := .active, recovery := 0 }.raise StreamCause.recovered
  | _ => { r with silence := 0 }

/-- R96: WATCH is raised by a set flag that stands in the watch mask. -/
def Record.watch (flags : BitVec 16) (r : Record) : Record :=
  if flags &&& r.opts.watchMask = 0 then r else r.raise StreamCause.watch

/-- R88: the five actions on a promoted record; `late` is whether the disposition is LATE (R97). -/
def Record.learn (al : Aligned) (late : Bool) (r : Record) : Record :=
  let taught := (((r.learnLatency al.latency).observe al.flags al.quality).hear).watch al.flags
  if late then taught.raise StreamCause.late else taught

/-- R63, steps 1 to 3: promotion, the disposition's counter, and Stream Health. -/
def Record.teach (al : Aligned) (late : Bool) (r : Record) : Record :=
  (r.promote.count (if late then .late else .placed)).learn al late

end Sys2Proof.Machine
end

