-- ==== Sys2Proof/Machine/Intake.lean ====
section
/-! DEFINITION. The ingress FIFO and the handling of a frame to its one disposition: the meanings of FRAME_OFFERED and
FRAME_HANDLING (ch3, and ch6's placing of a frame: R50 to R65, R116 to R120). -/

namespace Sys2Proof.Machine

/-- FRAME_OFFERED (R50 to R53): the frame is stamped and joins the FIFO, where a waiting intake takes it at once (R54),
or is DROPPED at a full one. While the reset input is asserted the part takes nothing in. The stamp is the arrival, so
the latency of R84 does not grow while the frame waits (log 23). -/
def execFrameOffered (bytes : List Byte) (s : State) : Host.Outcome State Fault Refusal :=
  if s.resetAsserted then .next s
  else if s.fifo.length < Config.fifoCapacity then
    .next (State.takeFrame { s with
      fifo := s.fifo ++
        [{ bytes := bytes.take Config.keptFrameBytes, length := bytes.length, arrival := s.time }] })
  else .next (s.countDropped.raise EngineCause.ingressDrop)

/-! ### The disposition of a taken frame (R56) -/

/-- R56: the dispositions of a taken frame, with the record index and what the arithmetic handed on. -/
inductive Disposition where
  | unknown
  | refused (i : Nat)
  | shape (i : Nat)
  | idle (i : Nat)
  | decimated (i : Nat)
  | misaligned (i : Nat)
  | ahead (i : Nat)
  | late (i : Nat) (al : Aligned)
  | duplicate (i : Nat)
  | placed (i : Nat) (al : Aligned)
  deriving DecidableEq, Repr

/-- Whether the slot is for the epoch with order key `key` and still OPEN. -/
def Slot.openFor (rout key : Nat) (sl : Slot) : Bool := sl.epoch.key rout == key && sl.status == .opened

/-- R116: the window's answer to an aligned frame of record `i`. -/
def State.windowDecision (i : Nat) (al : Aligned) (s : State) : Disposition :=
  match s.newest with
  | none => .ahead i
  | some newest =>
    if newest.epoch.key s.settings.rout < al.epoch.key s.settings.rout then .ahead i
    else
      match s.window.find? (Slot.openFor s.settings.rout (al.epoch.key s.settings.rout)) with
      | none => .late i al
      | some sl => if sl.hasEntry i then .duplicate i else .placed i al

/-- R57 to R61: the checks in order, each made only if those above it have passed. -/
def State.dispose (f : QueuedFrame) (s : State) : Disposition :=
  match s.lookup f.streamId with
  | none => .unknown
  | some i =>
    if (s.record i).state = .suspended then .refused i
    else if f.fits (s.record i) = false then .shape i
    else if s.run = .stopped then .idle i
    else
      match align s.settings (s.record i) f with
      | .decimated => .decimated i
      | .misaligned => .misaligned i
      | .aligned al => s.windowDecision i al

/-! ### The effects of a disposition (R62 to R64) -/

/-- R111, R117: the entry built for a PLACED frame; `r` is the record as Stream Health left it (R95). -/
def entryOf (i : Nat) (r : Record) (al : Aligned) (sl : Slot) : Entry :=
  { index := i, streamId := r.streamId, align := al.flag, suspect := r.clock == .unlocked,
    extra := !sl.expects i, flags := al.flags, residual := al.residual, latency := al.latency, data := al.data }

/-- An entry joins a map, which is kept in ascending order of record index. -/
def insertEntry (e : Entry) : List Entry → List Entry
  | [] => [e]
  | x :: xs => if e.index < x.index then e :: x :: xs else x :: insertEntry e xs

/-- R117 on one slot: the OPEN slot of the epoch gains the entry and is tested for completion (R121). -/
def Slot.place (i : Nat) (r : Record) (al : Aligned) (sl : Slot) : Slot :=
  { sl with entries := insertEntry (entryOf i r al sl) sl.entries }.testComplete

/-- R117: the frame's slot is the OPEN one of its epoch. -/
def State.placeEntry (i : Nat) (r : Record) (al : Aligned) (s : State) : State :=
  { s with window := s.window.map (fun sl =>
      if Slot.openFor s.settings.rout (al.epoch.key s.settings.rout) sl then sl.place i r al else sl) }

/-- R62: the record's counter of the disposition increases. -/
def State.countFrame (which : RecCounter) (i : Nat) (s : State) : State :=
  s.setRecord i ((s.record i).count which)

/-- R62 to R64, R77: what each disposition does. A PLACED frame can complete the oldest slot, so Release Logic tests
again (R144). -/
def State.applyDisposition (d : Disposition) (s : State) : State :=
  match d with
  | .unknown => s.countUnknown.raise EngineCause.unknownId
  | .refused i => s.countFrame .refused i
  | .shape i => s.countFrame .shape i
  | .idle i => s.countFrame .idle i
  | .decimated i => s.countFrame .decimated i
  | .misaligned i => s.setRecord i (((s.record i).count .misaligned).raise StreamCause.misalign)
  | .ahead i => s.countFrame .ahead i
  | .duplicate i => s.countFrame .duplicate i
  | .late i al => s.setRecord i ((s.record i).teach al true)
  | .placed i al =>
    let r := (s.record i).teach al false
    ((s.setRecord i { r with held := r.held + 1 }).placeEntry i r al).beginEmission

/-- R54: the handling of the taken frame ends with its disposition and the effects, all against the state of this one
moment (log 12). -/
def State.endHandling (s : State) : State :=
  match s.handling with
  | none => s
  | some f =>
    let done := { s with handling := none }
    done.applyDisposition (done.dispose f)

/-- FRAME_HANDLING (R54, R55): the taken frame is handled to its disposition, also while an edit is in flight, and intake
takes the next one. Where none is taken yet, the oldest is taken first. -/
def execFrameHandling (s : State) : Host.Outcome State Fault Refusal := .next s.takeFrame.endHandling.takeFrame

end Sys2Proof.Machine
end

