-- ==== Sys2Proof/Machine/Epochs.lean ====
section
/-! DEFINITION. The tick of an epoch, opening or skipping its slot, and the expiry of a deadline: the meanings of
EPOCH_TICK and DEADLINE_EXPIRY (R24, R47, R75, R98 to R100, R112 to R115, R137 to R143). -/

namespace Sys2Proof.Machine

/-! ### Silence (R98 to R100) -/

/-- R98: whether a tick at index `k` counts the record's silence. -/
def Record.countedAt (rout k : Nat) (r : Record) : Bool :=
  (r.state == .active || r.state == .recovering) && rateExpected r.rs rout k

/-- R98 to R100 on one record. -/
def Record.countSilence (rout k : Nat) (r : Record) : Record :=
  if r.countedAt rout k then
    if r.state = .active then
      if r.opts.silenceLimit ≤ r.silence + 1 then
        { r with silence := r.silence + 1, state := .silent }.raise StreamCause.silent
      else { r with silence := r.silence + 1 }
    else if r.silence + 1 = 2 then { r with silence := 2, state := .silent, recovery := 0 }
    else { r with silence := r.silence + 1 }
  else r

/-- R99: the indices of the ACTIVE records that become SILENT at a tick. -/
def State.fallingSilent (k : Nat) (s : State) : List Nat :=
  (s.records.zipIdx.filter (fun ri =>
    ri.1.state == .active && (ri.1.countSilence s.settings.rout k).state == .silent)).map (·.2)

/-- R98, R99: silence is counted at a tick, and each record that goes SILENT leaves ACTIVE under R20. -/
def State.countSilence (k : Nat) (s : State) : State :=
  (s.fallingSilent k).foldl (fun acc i => acc.leaveActive i)
    (s.mapRecords (fun _ r => r.countSilence s.settings.rout k))

/-! ### The wait and the deadline (R137 to R141) -/

/-- R137: Wcap in µs. -/
def waitCap (rout : Nat) : Nat := 62000000 / rout

/-- R140: the filtered latencies that enter Lcrit. -/
def State.pacing (s : State) : List Nat :=
  s.records.filterMap (fun r => if r.state == .active && r.cls == .member then r.filtered else none)

/-- R140: Lcrit, the greatest of them. -/
def State.lcrit (s : State) : Option Nat := s.pacing.max?

/-- R140, ADAPTIVE step 1: the raw wait, ceil(Lcrit × (128 + M) / 128), or Wmin where no record paces. -/
def rawWait (g : AlignSettings) : Option Nat → Nat
  | none => g.wMin
  | some l => (l * (128 + g.margin) + 127) / 128

/-- R140: the wait W of a slot opened now. -/
def State.waitNow (s : State) : Nat :=
  match s.settings.mode with
  | .fixed => min s.settings.wFixed (waitCap s.settings.rout)
  | .adaptive =>
    min (max s.settings.wMin (min (rawWait s.settings s.lcrit) s.settings.wMax)) (waitCap s.settings.rout)

/-- R141: the epoch's instant plus W × 1,000 ns, held at the last local time of the range. -/
def deadlineOf (rout : Nat) (e : Epoch) (wait : Nat) : LocalTime :=
  let total := e.instantNs rout + wait * 1000
  if e.sec + total / Config.nsPerSec ≤ Config.maxSec then
    { sec := e.sec + total / Config.nsPerSec, ns := total % Config.nsPerSec }
  else { sec := Config.maxSec, ns := Config.lastNs }

/-! ### A tick (R47, R112, R113, R114) -/

/-- R112: a full window's oldest slot is forced out and taken if it can be. -/
def State.makeRoom (s : State) : State :=
  if s.window.length < Config.windowCapacity then s
  else
    match s.window with
    | [] => s
    | sl :: rest =>
      if sl.status = .opened then
        ({ s with window := sl.release .windowFull :: rest }.raise EngineCause.windowFull).beginEmission
      else s.beginEmission

/-- R113: the expected set of a slot opened now for epoch index `k`: (record index, noted stream ID). -/
def State.expectedSet (k : Nat) (s : State) : List (Nat × Nat) :=
  (s.records.zipIdx.filter (fun ri =>
    ri.1.state == .active && ri.1.cls == .member && rateExpected ri.1.rs s.settings.rout k)).map
    (fun ri => (ri.2, ri.1.streamId))

/-- R113: the slot a tick opens. -/
def State.newSlot (e : Epoch) (s : State) : Slot :=
  { epoch := e, status := .opened, tbState := s.tb.state, wait := s.waitNow,
    deadline := deadlineOf s.settings.rout e s.waitNow, snapshot := (s.expectedSet e.k).length,
    expected := s.expectedSet e.k, entries := [] }

/-- R24 at a tick, then R98, in R47's order. -/
def State.beforeOpening (k : Nat) (s : State) : State :=
  (s.mapRecords (fun _ r => r.settleAmendment)).countSilence k

/-- R113: the slot joins the newest end and its epoch is the run's newest; a slot whose deadline has already been
reached becomes DUE at once (R143). -/
def State.pushSlot (e : Epoch) (s : State) : State :=
  { s with window := s.window ++ [(s.newSlot e).expire s.time]
           newest := some { epoch := e, wait := s.waitNow } }

/-- R47: a tick reaches the window, which skips the epoch or opens its slot. -/
def State.tick (e : Epoch) (s : State) : State :=
  let roomy := s.makeRoom
  if roomy.window.length < Config.windowCapacity then ((roomy.beforeOpening e.k).pushSlot e).beginEmission
  else roomy.skipEpochs 1

/-- EPOCH_TICK (R46, R47): while RUNNING, when local time has reached the next epoch's instant, the tick fires and the
next epoch moves on. -/
def execEpochTick (s : State) : Host.Outcome State Fault Refusal :=
  match s.nextEpoch with
  | none => .next s
  | some e =>
    if s.run = .running ∧ (e.instant s.settings.rout).atOrBefore s.time then
      .next ({ s with nextEpoch := e.succ s.settings.rout }.tick e)
    else .next s

/-! ### Deadlines (R142) -/

/-- Whether the slot is the OPEN one of the epoch, with its deadline reached. -/
def Slot.dueAt (e : Epoch) (now : LocalTime) (sl : Slot) : Bool :=
  sl.epoch == e && sl.status == .opened && decide (sl.deadline.atOrBefore now)

/-- R142 on one slot. -/
def Slot.expireIf (e : Epoch) (now : LocalTime) (sl : Slot) : Slot := if sl.dueAt e now then sl.release .deadline else sl

/-- DEADLINE_EXPIRY (R142): the OPEN slot of the epoch, its deadline reached, becomes DUE with DEADLINE, and Release
Logic tests again (R144). -/
def execDeadlineExpiry (e : Epoch) (s : State) : Host.Outcome State Fault Refusal :=
  if s.window.any (Slot.dueAt e s.time) then
    .next { s with window := s.window.map (Slot.expireIf e s.time) }.beginEmission
  else .next s

end Sys2Proof.Machine
end

