-- ==== Sys2Proof/Machine/Timebase.lean ====
section
/-! DEFINITION. The timebase: PPS edges, its timeouts, and steps of local time with what they reach: the meanings of
PPS_EDGE, ACQUIRE_TIMEOUT, MISSING_EDGE_LIMIT and HOLDOVER_LIMIT (R31 to R43, R48, R49, R143). -/

namespace Sys2Proof.Machine

/-! ### Steps of local time -/

/-- R143: every OPEN slot whose deadline lies at or before local time becomes DUE with DEADLINE. -/
def State.expireReached (s : State) : State := { s with window := s.window.map (Slot.expire s.time) }

/-- R48: the epochs a forward step has reached: one tick, for the latest; the earlier ones are skipped. -/
def State.tickReached (s : State) : State :=
  match s.nextEpoch with
  | none => s
  | some e =>
    let rout := s.settings.rout
    let last := latestEpoch rout s.time
    if s.run = .running ∧ e.key rout ≤ last.key rout then
      ({ s with nextEpoch := last.succ rout }.skipEpochs (last.key rout - e.key rout)).tick last
    else s

/-- R32, R48, R49, R143: local time is stepped to `t`. A forward step expires the deadlines it reaches, and then fires
a tick for the epochs it reaches (log 9); a backward step does neither. -/
def State.stepTime (t : LocalTime) (s : State) : State :=
  if s.time.before t then ({ s with time := t }.expireReached.beginEmission).tickReached
  else { s with time := t }

/-! ### PPS edges (R33 to R43) -/

/-- R34: staged settings replace those in force. -/
def Timebase.applyStaged (b : Timebase) : Timebase :=
  { b with
    inForce :=
      { tolerance := b.staged.tolerance.getD b.inForce.tolerance
        stepLimit := b.staged.stepLimit.getD b.inForce.stepLimit
        holdoverLimit := b.staged.holdoverLimit.getD b.inForce.holdoverLimit }
    staged := { tolerance := none, stepLimit := none, holdoverLimit := none } }

/-- R33: the phase error e of a capture with nanoseconds `n`. -/
def phaseError (n : Nat) : Int := if n < 500000000 then (n : Int) else (n : Int) - (Config.nsPerSec : Int)

/-- R33: a good interval: there is a previous capture, and |I − 10⁹| is within the PPS tolerance in force. -/
def Timebase.goodInterval (b : Timebase) : Bool :=
  b.prevCapture.isSome &&
    decide (((b.sinceCapture * Config.periodNs : Nat) - (Config.nsPerSec : Int)).natAbs ≤ b.inForce.tolerance)

/-- R32: the correction a step at an edge makes, −e rounded to a multiple of 8 ns half away from zero. -/
def correction (e : Int) : Int := roundHalfAway (-e) Config.periodNs * (Config.periodNs : Int)

/-- R32, R43: where a step at an edge takes local time: to (armed value, 0), or corrected by −e. -/
def Timebase.stepTarget (b : Timebase) (t : LocalTime) : LocalTime :=
  match b.armed with
  | some v => { sec := v, ns := 0 }
  | none => t.shift (correction (phaseError t.ns))

/-- R35 to R40: the timebase after an edge with capture `t`, and whether the edge steps local time. -/
def Timebase.judge (t : LocalTime) (b : Timebase) : Timebase × Bool :=
  match b.state with
  | .free => ({ b with state := .acquiring, good := 0 }, false)
  | .acquiring =>
    if b.goodInterval then
      if b.good + 1 = 2 then ({ b with state := .locked, good := 2, bad := 0 }, true)
      else ({ b with good := b.good + 1 }, false)
    else ({ b with good := 0 }, false)
  | .locked =>
    if b.goodInterval ∧ (phaseError t.ns).natAbs ≤ b.inForce.stepLimit then ({ b with bad := 0 }, true)
    else if b.bad + 1 = 2 then ({ b with state := .acquiring, good := 0, bad := 0 }, false)
    else ({ b with bad := b.bad + 1 }, false)
  | .holdover =>
    if (phaseError t.ns).natAbs ≤ Config.relockBoundNs then
      ({ b with state := .locked, bad := 0, inHoldover := 0 }, true)
    else ({ b with state := .acquiring, good := 0, inHoldover := 0 }, false)

/-- R33: the edge's capture becomes the previous capture. -/
def Timebase.capture (t : LocalTime) (b : Timebase) : Timebase :=
  { b with prevCapture := some t, sinceCapture := 0 }

/-- R41: every change of timebase state raises TB_STATE. -/
def State.setTimebase (b : Timebase) (s : State) : State :=
  if b.state = s.tb.state then { s with tb := b } else { s with tb := b }.raise EngineCause.tbState

/-- PPS_EDGE (R33): staged settings take effect, the edge is judged, and local time is stepped where the edge steps
it, the armed value being used up. An edge while the reset input is asserted is ignored. -/
def execPpsEdge (s : State) : Host.Outcome State Fault Refusal :=
  if s.resetAsserted then .next s
  else
    let b := s.tb.applyStaged
    let judged := b.judge s.time
    if judged.2 then
      .next ((s.setTimebase { judged.1.capture s.time with armed := none }).stepTime (b.stepTarget s.time))
    else .next (s.setTimebase (judged.1.capture s.time))

/-! ### Timeouts (R35, R37, R39, R40) -/

/-- R35: entry to FREE: counts 0, the previous capture discarded, the armed value kept. -/
def Timebase.enterFree (b : Timebase) : Timebase :=
  { b with state := .free, good := 0, bad := 0, prevCapture := none, sinceCapture := 0, inHoldover := 0 }

/-- R37: 3 s have elapsed since the previous capture in ACQUIRING. -/
def Timebase.acquireExpired (b : Timebase) : Bool :=
  b.state == .acquiring && Config.acquireTimeoutNs ≤ b.sinceCapture * Config.periodNs

/-- R39: 1.5 s have elapsed since the previous capture in LOCKED. -/
def Timebase.edgeMissing (b : Timebase) : Bool :=
  b.state == .locked && Config.missingEdgeNs ≤ b.sinceCapture * Config.periodNs

/-- R40: the time spent in HOLDOVER has reached the holdover limit in force. -/
def Timebase.holdoverOver (b : Timebase) : Bool :=
  b.state == .holdover && b.inForce.holdoverLimit * Config.nsPerSec ≤ b.inHoldover * Config.periodNs

/-- ACQUIRE_TIMEOUT (R37). -/
def execAcquireTimeout (s : State) : Host.Outcome State Fault Refusal :=
  if s.tb.acquireExpired then .next (s.setTimebase s.tb.enterFree) else .next s

/-- MISSING_EDGE_LIMIT (R39). -/
def execMissingEdgeLimit (s : State) : Host.Outcome State Fault Refusal :=
  if s.tb.edgeMissing then .next (s.setTimebase { s.tb with state := .holdover, inHoldover := 0 }) else .next s

/-- HOLDOVER_LIMIT (R40). -/
def execHoldoverLimit (s : State) : Host.Outcome State Fault Refusal :=
  if s.tb.holdoverOver then .next (s.setTimebase s.tb.enterFree) else .next s

end Sys2Proof.Machine
end

