-- ==== Sys2Proof/Machine/EngineCommands.lean ====
section
/-! DEFINITION. The engine commands of ch9 section 9.5: READ ENGINE to TAKE ENGINE CAUSES (R42, R44, R130 to R138,
R169 to R174, R189). `…Command` is what the command does at its start; its row starts the oldest queued message
when it is of its kind (R164, log 5). -/

namespace Sys2Proof.Machine

/-! ### READ ENGINE (R169) -/

/-- R169: the return fields, as they stand. -/
def State.report (s : State) : EngineReport :=
  { run := s.run, tbState := s.tb.state
    openSlots := s.window.countP (fun sl => sl.status == .opened)
    dueSlots := s.window.countP (fun sl => sl.status != .opened)
    occupancy := s.egress.length
    freeRecords := s.records.countP (fun r => r.state == .free)
    newestWait := s.newest.map (·.wait)
    settings := s.settings, tbSettings := s.tb.inForce, mask := s.mask, counters := s.counters }

/-- READ ENGINE past its form check. -/
def readEngineBody (m : Message) (s : State) : State :=
  let clear := fieldAt m.body 0 1
  if clear = 0 then s.answer m .done (.engine s.report)
  else if clear = 1 then { s with counters := EngineCounters.zero }.answer m .done (.engine s.report)
  else s.answer m .range .none

/-- READ_ENGINE (kind 1). -/
def readEngineCommand : Message → State → State := withLength 1 readEngineBody

/-- READ_ENGINE. -/
def execReadEngine (s : State) : Host.Outcome State Fault Refusal :=
  .next (s.startCommand (Message.isKind 1) readEngineCommand)

/-! ### CONFIGURE ALIGNMENT (R138, R170) -/

/-- R138, check 4: the lowest index of a record that is not FREE and does not fit the rate. -/
def State.offender (rout : Nat) (s : State) : Option Nat :=
  s.records.findIdx? (fun r => r.state != .free && !rateCompatible r.rs rout)

/-- R138: the checks in order, and the settings written. -/
def configureAlignmentBody (items : List Item) (m : Message) (s : State) : State :=
  let g := s.settings.withItems items
  if s.run ≠ .stopped then s.answer m .state .none
  else if items.all itemInRange = false then s.answer m .range .none
  else if g.wMax < g.wMin then s.answer m .range .none
  else
    match s.offender g.rout with
    | some i => s.answer m .rate (.index i)
    | none => { s with settings := g }.answer m .done .none

/-- CONFIGURE_ALIGNMENT (kind 2): an item list of codes 16 to 22, not empty (R170). -/
def configureAlignmentCommand : Message → State → State :=
  fun m s =>
    match m.items 0 16 22 with
    | none => s.answer m .malformed .none
    | some [] => s.answer m .malformed .none
    | some (item :: rest) => configureAlignmentBody (item :: rest) m s

/-- CONFIGURE_ALIGNMENT. -/
def execConfigureAlignment (s : State) : Host.Outcome State Fault Refusal :=
  .next (s.startCommand (Message.isKind 2) configureAlignmentCommand)

/-! ### CONFIGURE TIMEBASE (R34, R171) -/

/-- R171: a range check, then the named settings are staged. -/
def configureTimebaseBody (items : List Item) (m : Message) (s : State) : State :=
  if items.all itemInRange then
    { s with tb := { s.tb with staged := s.tb.staged.withItems items } }.answer m .done .none
  else s.answer m .range .none

/-- CONFIGURE_TIMEBASE (kind 3): an item list of codes 24 to 26, not empty (R171). -/
def configureTimebaseCommand : Message → State → State :=
  fun m s =>
    match m.items 0 24 26 with
    | none => s.answer m .malformed .none
    | some [] => s.answer m .malformed .none
    | some (item :: rest) => configureTimebaseBody (item :: rest) m s

/-- CONFIGURE_TIMEBASE. -/
def execConfigureTimebase (s : State) : Host.Outcome State Fault Refusal :=
  .next (s.startCommand (Message.isKind 3) configureTimebaseCommand)

/-! ### SET TIME and READ TIME (R42, R44, R172) -/

/-- R42. -/
def setTimeBody (m : Message) (s : State) : State :=
  let value := fieldAt m.body 0 4
  if s.run ≠ .stopped then s.answer m .state .none
  else if s.tb.state = .free then
    { s with time := { sec := value, ns := 0 }, tb := { s.tb with armed := none } }.answer m .done .none
  else { s with tb := { s.tb with armed := some value } }.answer m .deferred .none

/-- SET_TIME (kind 4). -/
def setTimeCommand : Message → State → State := withLength 4 setTimeBody

/-- SET_TIME. -/
def execSetTime (s : State) : Host.Outcome State Fault Refusal :=
  .next (s.startCommand (Message.isKind 4) setTimeCommand)

/-- READ_TIME (kind 5, R44). -/
def readTimeCommand : Message → State → State :=
  withLength 0 (fun m s => s.answer m .done (.time s.time s.tb.state s.tb.armed))

/-- READ_TIME. -/
def execReadTime (s : State) : Host.Outcome State Fault Refusal :=
  .next (s.startCommand (Message.isKind 5) readTimeCommand)

/-! ### START and STOP (R130 to R133, R173) -/

/-- R131. -/
def startBody (m : Message) (s : State) : State :=
  if s.run = .stopped then
    { s with run := .running, nextEpoch := firstEpochAfter s.settings.rout s.time, newest := none }.answer m .done .none
  else s.answer m .state .none

/-- START (kind 6). -/
def startRunCommand : Message → State → State := withLength 0 startBody

/-- START. -/
def execStart (s : State) : Host.Outcome State Fault Refusal :=
  .next (s.startCommand (Message.isKind 6) startRunCommand)

/-- R132: a RUNNING engine moves to DRAINING, and stops at once on an empty window with no emission (R134). -/
def State.drain (s : State) : State :=
  if s.run = .running then { s with run := .draining, nextEpoch := none }.endDrain else s

/-- R133: every OPEN slot becomes DUE with FLUSH, and the engine drains. -/
def State.flush (s : State) : State :=
  if s.run = .stopped then s
  else
    ({ s with run := .draining, nextEpoch := none
              window := s.window.map (Slot.release .flush) }.beginEmission).endDrain

/-- R173: STOP's mode byte decides; a value other than 0 or 1 is answered RANGE. -/
def stopBody (m : Message) (s : State) : State :=
  let mode := fieldAt m.body 0 1
  if mode = 0 then s.drain.answer m .done .none
  else if mode = 1 then s.flush.answer m .done .none
  else s.answer m .range .none

/-- STOP (kind 7, R173). -/
def stopCommand : Message → State → State := withLength 1 stopBody

/-- STOP_DRAIN: starts a STOP (kind 7) that is not a STOP FLUSH (log 15). -/
def execStopDrain (s : State) : Host.Outcome State Fault Refusal :=
  .next (s.startCommand (fun m => m.isKind 7 && !(m.len == 1 && fieldAt m.body 0 1 == 1)) stopCommand)

/-- STOP_FLUSH: starts a STOP (kind 7) that is not a STOP DRAIN (log 15). -/
def execStopFlush (s : State) : Host.Outcome State Fault Refusal :=
  .next (s.startCommand (fun m => m.isKind 7 && !(m.len == 1 && fieldAt m.body 0 1 == 0)) stopCommand)

/-! ### RESET ENGINE (R7, R65, R128, R135, R151, R190) -/

/-- R7: a RETIRING record becomes FREE; every held count becomes 0. -/
def Record.engineReset (r : Record) : Record :=
  if r.state = .retiring then Record.vacant else { r with held := 0 }

/-- R135: RESET ENGINE past the end of a handling. -/
def State.clearEngine (s : State) : State :=
  { s with
    run := .stopped, nextEpoch := none, newest := none, window := [], emission := none
    counters := { EngineCounters.zero with dropped := satAdd 0 s.fifo.length }, fifo := []
    egress := if s.transmitting then s.egress.take 1 else [], causes := 0 }.mapRecords (fun _ r => r.engineReset)

/-- R135: the one event of RESET ENGINE. A frame that intake has taken is no longer in the FIFO, so its handling ends
before the reset (R65, log 24). -/
def State.resetEngine (s : State) : State := s.endHandling.clearEngine

/-- RESET_ENGINE (kind 8). -/
def resetEngineCommand : Message → State → State := withLength 0 (fun m s => s.resetEngine.answer m .done .none)

/-- RESET_ENGINE. -/
def execResetEngine (s : State) : Host.Outcome State Fault Refusal :=
  .next (s.startCommand (Message.isKind 8) resetEngineCommand)

/-! ### Engine causes (R174, R188, R189) -/

/-- R174. -/
def setMaskBody (m : Message) (s : State) : State :=
  let v := fieldAt m.body 0 1
  if v ≤ 63 then { s with mask := BitVec.ofNat 6 v }.answer m .done .none else s.answer m .range .none

/-- SET_ENGINE_CAUSE_MASK (kind 9). -/
def setEngineCauseMaskCommand : Message → State → State := withLength 1 setMaskBody

/-- SET_ENGINE_CAUSE_MASK. -/
def execSetEngineCauseMask (s : State) : Host.Outcome State Fault Refusal :=
  .next (s.startCommand (Message.isKind 9) setEngineCauseMaskCommand)

/-- TAKE_ENGINE_CAUSES (kind 10, R189). -/
def takeEngineCausesCommand : Message → State → State :=
  withLength 0 (fun m s => { s with causes := 0 }.answer m .done (.causes s.causes))

/-- TAKE_ENGINE_CAUSES. -/
def execTakeEngineCauses (s : State) : Host.Outcome State Fault Refusal :=
  .next (s.startCommand (Message.isKind 10) takeEngineCausesCommand)

end Sys2Proof.Machine
end

