-- ==== Sys2Proof/Machine/StreamCommands.lean ====
section
/-! DEFINITION. The stream commands of ch9 section 9.6: REGISTER STREAM to TAKE STREAM CAUSES (R8, R9, R14 to R29,
R175 to R180, R184, R185). `…Command` is what the command does at its start; its row starts the oldest queued message
when it is of its kind (R164, log 5). -/

namespace Sys2Proof.Machine

/-! ### REGISTER STREAM (R16, R18, R175) -/

/-- R18: the lowest-indexed FREE record. -/
def State.lowestFree (s : State) : Option Nat := s.records.findIdx? (fun r => r.state == .free)

/-- R16's checks in order; an accepted command starts the insertion edit (R11, R18). -/
def registerBody (items : List Item) (m : Message) (s : State) : State :=
  let g := Registration.ofBody m.body items
  if fixedPartInRange m.body = false ∨ items.all itemInRange = false then s.answer m .range .none
  else if (s.lookup g.streamId).isSome then s.answer m .exist .none
  else if rateCompatible g.rs s.settings.rout = false then s.answer m .rate .none
  else
    match s.lowestFree with
    | none => s.answer m .full .none
    | some i => { s with port := .editing m.kind m.tag (.insertion i g) }

/-- REGISTER_STREAM (kind 16): 11 bytes, then an item list of codes 2 to 9 (R175). -/
def registerStreamCommand : Message → State → State :=
  fun m s =>
    match m.items 11 2 9 with
    | none => s.answer m .malformed .none
    | some items => registerBody items m s

/-- REGISTER_STREAM. -/
def execRegisterStream (s : State) : Host.Outcome State Fault Refusal :=
  .next (s.startCommand (Message.isKind 16) registerStreamCommand)

/-! ### AMEND STREAM (R21 to R25, R176) -/

/-- R22: the cause enable, if the command names one, applies at once. -/
def Record.enable (items : List Item) (r : Record) : Record :=
  match itemValue 9 items with
  | none => r
  | some v => { r with opts := { r.opts with causeEnable := BitVec.ofNat 6 v } }

/-- R22, R23: the pending amendment with the command's fields merged in. -/
def Record.mergedAmendment (items : List Item) (r : Record) : Amendment :=
  (r.amend.getD Amendment.empty).merge (Amendment.ofItems items)

/-- R22: what an accepted AMEND STREAM does to its record while STOPPED (`atOnce`) or otherwise. -/
def Record.amendBy (items : List Item) (atOnce : Bool) (r : Record) : Record :=
  if Amendment.ofItems items = Amendment.empty then r.enable items
  else if atOnce then { (r.enable items).applyAmendment (r.mergedAmendment items) with amend := none }
  else { r.enable items with amend := some (r.mergedAmendment items) }

/-- R21's range check, then R22. -/
def amendBody (items : List Item) (i : Nat) (m : Message) (s : State) : State :=
  if items.all itemInRange = false then s.answer m .range .none
  else
    (s.setRecord i ((s.record i).amendBy items (s.run == .stopped))).answer m
      (if Amendment.ofItems items = Amendment.empty ∨ s.run = .stopped then .done else .deferred) .none

/-- AMEND_STREAM (kind 17): a stream ID, then an item list of codes 1 to 9 (R176). -/
def amendStreamCommand : Message → State → State :=
  fun m s =>
    match m.items 4 1 9 with
    | none => s.answer m .malformed .none
    | some items => withStream 0 (amendBody items) m s

/-- AMEND_STREAM. -/
def execAmendStream (s : State) : Host.Outcome State Fault Refusal :=
  .next (s.startCommand (Message.isKind 17) amendStreamCommand)

/-! ### SUSPEND, RESUME, RESET and RETIRE STREAM (R26 to R29, R177) -/

/-- R20: if the record was ACTIVE it leaves ACTIVE; then the record becomes `r`, and Release Logic tests again (R144). -/
def State.moveRecord (i : Nat) (r : Record) (s : State) : State :=
  if (s.record i).state = .active then ((s.leaveActive i).setRecord i r).beginEmission else s.setRecord i r

/-- R26: what SUSPEND STREAM does to a record. -/
def Record.suspend (r : Record) : Record :=
  if r.state = .suspended then r else { r with state := .suspended, silence := 0, recovery := 0 }

/-- SUSPEND_STREAM (kind 18). -/
def suspendStreamCommand : Message → State → State :=
  withLength 4 (withStream 0 (fun i m s =>
    (s.moveRecord i (s.record i).suspend).answer m .done .none))

/-- SUSPEND_STREAM. -/
def execSuspendStream (s : State) : Host.Outcome State Fault Refusal :=
  .next (s.startCommand (Message.isKind 18) suspendStreamCommand)

/-- RESUME_STREAM (kind 19, R27). -/
def resumeStreamCommand : Message → State → State :=
  withLength 4 (withStream 0 (fun i m s =>
    if (s.record i).state = .suspended then
      (s.setRecord i { s.record i with state := .pending }).answer m .done .none
    else s.answer m .state .none))

/-- RESUME_STREAM. -/
def execResumeStream (s : State) : Host.Outcome State Fault Refusal :=
  .next (s.startCommand (Message.isKind 19) resumeStreamCommand)

/-- R28: what RESET STREAM does to a record. -/
def Record.restart (r : Record) : Record :=
  { r with
    history := [], filtered := none, clock := .locked, disagree := 0, silence := 0, recovery := 0
    counters := RecordCounters.zero, causes := 0, amend := none
    state := if r.state = .suspended then .suspended else .pending }

/-- RESET_STREAM (kind 20). -/
def resetStreamCommand : Message → State → State :=
  withLength 4 (withStream 0 (fun i m s =>
    (s.moveRecord i (s.record i).restart).answer m .done .none))

/-- RESET_STREAM. -/
def execResetStream (s : State) : Host.Outcome State Fault Refusal :=
  .next (s.startCommand (Message.isKind 20) resetStreamCommand)

/-- RETIRE_STREAM (kind 21, R29): the removal edit starts; the record stays as it is until it completes. -/
def retireStreamCommand : Message → State → State :=
  withLength 4 (withStream 0 (fun i m s =>
    { s with port := .editing m.kind m.tag (.removal (fieldAt m.body 0 4) i) }))

/-- RETIRE_STREAM. -/
def execRetireStream (s : State) : Host.Outcome State Fault Refusal :=
  .next (s.startCommand (Message.isKind 21) retireStreamCommand)

/-! ### LOOKUP, LIST and READ STREAM (R9, R14, R15, R178, R179) -/

/-- LOOKUP_STREAM (kind 22, R14). -/
def lookupStreamCommand : Message → State → State :=
  withLength 4 (withStream 0 (fun i m s =>
    s.answer m .done (.lookup i (s.record i).state)))

/-- LOOKUP_STREAM. -/
def execLookupStream (s : State) : Host.Outcome State Fault Refusal :=
  .next (s.startCommand (Message.isKind 22) lookupStreamCommand)

/-- R15: the pairs at or above a starting ID. -/
def State.pairsFrom (start : Nat) (s : State) : List (Nat × Nat) := s.directory.filter (fun p => start ≤ p.1)

/-- LIST_STREAMS (kind 23, R15, R178): up to 16 pairs, and whether more follow. -/
def listStreamsCommand : Message → State → State :=
  withLength 4 (fun m s =>
    let found := s.pairsFrom (fieldAt m.body 0 4)
    s.answer m .done (.pairs (found.take Config.listPairs) (Config.listPairs < found.length)))

/-- LIST_STREAMS. -/
def execListStreams (s : State) : Host.Outcome State Fault Refusal :=
  .next (s.startCommand (Message.isKind 23) listStreamsCommand)

/-- R179: the answer over record `i`, and its counters cleared if asked. -/
def readRecord (clear : Bool) (i : Nat) (m : Message) (s : State) : State :=
  (if clear then s.setRecord i { s.record i with counters := RecordCounters.zero } else s).answer m .done
    (.stream i (s.record i))

/-- R9, R179: READ STREAM past its form check. -/
def readStreamBody (m : Message) (s : State) : State :=
  let selector := fieldAt m.body 0 1
  let clear := fieldAt m.body 5 1
  if 1 < selector ∨ 1 < clear then s.answer m .range .none
  else if selector = 0 then
    if fieldAt m.body 1 4 < Config.recordCount then readRecord (clear == 1) (fieldAt m.body 1 4) m s
    else s.answer m .range .none
  else withStream 1 (readRecord (clear == 1)) m s

/-- READ_STREAM (kind 24). -/
def readStreamCommand : Message → State → State := withLength 6 readStreamBody

/-- READ_STREAM. -/
def execReadStream (s : State) : Host.Outcome State Fault Refusal :=
  .next (s.startCommand (Message.isKind 24) readStreamCommand)

/-! ### TAKE STREAM CAUSES (R180, R184, R185) -/

/-- R185: the records in the order of the search: from the scan pointer plus 1 upward, wrapping, the pointer last. -/
def State.scanOrder (s : State) : List (Record × Nat) :=
  s.records.zipIdx.drop (s.scanPtr + 1) ++ s.records.zipIdx.take (s.scanPtr + 1)

/-- R185: the first record of the search with an enabled pending cause. -/
def State.attentionFound (s : State) : Option (Record × Nat) :=
  s.scanOrder.find? (fun ri => ri.1.attention != 0)

/-- R185: the enabled pending causes are taken, the others stay, and the scan pointer moves. -/
def takeCausesBody (m : Message) (s : State) : State :=
  match s.attentionFound with
  | none => s.answer m .done .noneFound
  | some (r, i) =>
    ({ s with scanPtr := i }.setRecord i { r with causes := r.causes &&& ~~~r.opts.causeEnable }).answer m .done
      (.taken i r.streamId r.attention)

/-- TAKE_STREAM_CAUSES (kind 25). -/
def takeStreamCausesCommand : Message → State → State := withLength 0 takeCausesBody

/-- TAKE_STREAM_CAUSES. -/
def execTakeStreamCauses (s : State) : Host.Outcome State Fault Refusal :=
  .next (s.startCommand (Message.isKind 25) takeStreamCausesCommand)

end Sys2Proof.Machine
end

