-- ==== Sys2Proof/Machine/Management.lean ====
section
/-! DEFINITION. The management link: the reception of messages, the start of commands, and the meanings of
MESSAGE_RECEIVED, ANSWER_SENT, MALFORMED and of the completion of the two directory edits (R10, R11, R18, R29, R162 to
R167, R193). -/

namespace Sys2Proof.Machine

/-! ### The start of a command -/

/-- R166, R193: the twenty kinds are 1 to 10 and 16 to 25. -/
def Message.knownKind (m : Message) : Bool :=
  (1 ≤ m.kind.toNat && m.kind.toNat ≤ 10) || (16 ≤ m.kind.toNat && m.kind.toNat ≤ 25)

/-- MALFORMED (R166): a command of an unknown kind is answered MALFORMED, the kind echoed. -/
def malformedCommand : Message → State → State := fun m s => s.answer m .malformed .none

/-- MALFORMED. -/
def execMalformed (s : State) : Host.Outcome State Fault Refusal :=
  .next (s.startCommand (fun m => !m.knownKind) malformedCommand)

/-- The command of a message, by R193's table of kinds. -/
def Message.carryOut (m : Message) : State → State :=
  match m.kind.toNat with
  | 1 => readEngineCommand m
  | 2 => configureAlignmentCommand m
  | 3 => configureTimebaseCommand m
  | 4 => setTimeCommand m
  | 5 => readTimeCommand m
  | 6 => startRunCommand m
  | 7 => stopCommand m
  | 8 => resetEngineCommand m
  | 9 => setEngineCauseMaskCommand m
  | 10 => takeEngineCausesCommand m
  | 16 => registerStreamCommand m
  | 17 => amendStreamCommand m
  | 18 => suspendStreamCommand m
  | 19 => resumeStreamCommand m
  | 20 => resetStreamCommand m
  | 21 => retireStreamCommand m
  | 22 => lookupStreamCommand m
  | 23 => listStreamsCommand m
  | 24 => readStreamCommand m
  | 25 => takeStreamCausesCommand m
  | _ => malformedCommand m

/-- R164's test: when no command is in progress and a message waits, the oldest is started and carried out. -/
def State.startOldest (s : State) : State := s.startCommand (fun _ => true) Message.carryOut

/-! ### The link -/

/-- R162, R163, R167, R193: a byte that the part accepts joins the message in reception. With its last byte the message
is received: it joins the queue, and the port tests for a command to start (R164). A byte that the part does not accept
is left with its sender (log 11). -/
def State.receiveByte (b : Byte) (s : State) : State :=
  if s.mgmtReady then
    match Message.ofWire (s.reception ++ [b]) with
    | none => { s with reception := s.reception ++ [b] }
    | some m => { s with reception := [], queue := s.queue ++ [m] }.startOldest
  else s

/-- MESSAGE_RECEIVED (R162): the part takes the bytes one by one. -/
def execManagementBytes (bytes : List Byte) (s : State) : Host.Outcome State Fault Refusal :=
  .next (bytes.foldl (fun acc b => acc.receiveByte b) s)

/-- MESSAGE_RECEIVED of one whole message (R162, R193). -/
def execMessageReceived (kind tag : Byte) (body : List Byte) (s : State) : Host.Outcome State Fault Refusal :=
  execManagementBytes (kind :: tag :: BitVec.ofNat 8 body.length :: body) s

/-- ANSWER_SENT (R164): the last byte of the answer is sent, no command is in progress, and the port tests for one to
start. -/
def execAnswerSent (s : State) : Host.Outcome State Fault Refusal :=
  match s.port with
  | .answering _ => .next { s with port := .idle }.startOldest
  | .idle => .next s
  | .editing _ _ _ => .next s

/-! ### Edit completion -/

/-- R18: the record takes its fields from the registration and becomes PENDING, with R3's and R4's starting values. -/
def Record.registered (g : Registration) : Record :=
  { Record.vacant with
    state := .pending, streamId := g.streamId, cls := g.cls, rs := g.rs, tb := g.tb, p := g.p, a := g.a
    opts := g.opts }

/-- INSERTION_EDIT_COMPLETION (R18): the pair enters the directory, the record becomes PENDING, the answer is DONE with
the record index, and intake resumes (R12). It comes after the end of a handling that was going on when the edit began
(R11, R55). -/
def execInsertionEditCompletion (s : State) : Host.Outcome State Fault Refusal :=
  match s.port with
  | .editing kind tag (.insertion i g) =>
    if s.handling = none then
      .next ({ s with directory := insertPair g.streamId i s.directory
                      port := .answering { kind, tag, status := .done, ret := .index i } }.setRecord i
                (Record.registered g)).takeFrame
    else .next s
  | .editing _ _ (.removal _ _) => .next s
  | .idle => .next s
  | .answering _ => .next s

/-- R29: what the removal edit makes of the record. -/
def Record.retired (r : Record) : Record :=
  if r.held = 0 then Record.vacant else { r with state := .retiring, recovery := 0, amend := none }

/-- REMOVAL_EDIT_COMPLETION (R29): the pair is gone, an ACTIVE record leaves ACTIVE (R20), the record becomes FREE
(DONE) or RETIRING (DEFERRED), and intake resumes (R12). It comes after the end of a handling that was going on when the
edit began (R11, R55). -/
def execRemovalEditCompletion (s : State) : Host.Outcome State Fault Refusal :=
  match s.port with
  | .editing kind tag (.removal id i) =>
    let r := s.record i
    let left := if r.state = .active then s.leaveActive i else s
    if s.handling = none then
      .next ({ left with
          directory := removePair id s.directory
          port := .answering
            { kind, tag, status := if r.held = 0 then .done else .deferred, ret := .none } }.setRecord i
            r.retired).beginEmission.takeFrame
    else .next s
  | .editing _ _ (.insertion _ _) => .next s
  | .idle => .next s
  | .answering _ => .next s

end Sys2Proof.Machine
end

