-- ==== Sys2Proof/Machine/Clock.lean ====
section
/-! DEFINITION. What the part does on its own while no command waits: one period of the reference clock passes and the
events that fall in it join the queue (R31, R46, R142; log 2 to 4). -/

namespace Sys2Proof.Machine

/-- Section 2.4: one reference period of the timebase's own measures. -/
def Timebase.period (b : Timebase) : Timebase :=
  { b with
    sinceCapture := if b.prevCapture.isSome then b.sinceCapture + 1 else 0
    inHoldover := if b.state = .holdover then b.inHoldover + 1 else 0 }

/-- R31: one reference period passes. -/
def State.clockPeriod (s : State) : State :=
  { s with time := s.time.advance, tb := s.tb.period, periods := s.periods + 1 }

/-- R37, R39, R40: the timeout the timebase has reached. -/
def State.timeouts (s : State) : List Instr :=
  if s.tb.acquireExpired then [.acquireTimeout]
  else if s.tb.edgeMissing then [.missingEdgeLimit]
  else if s.tb.holdoverOver then [.holdoverLimit]
  else []

/-- R46: the tick of the next epoch, its instant reached. -/
def State.tickDue (s : State) : List Instr :=
  match s.nextEpoch with
  | none => []
  | some e => if s.run = .running ∧ (e.instant s.settings.rout).atOrBefore s.time then [.epochTick] else []

/-- R142: the expiries of the OPEN slots whose deadlines are reached. -/
def State.expiriesDue (s : State) : List Instr :=
  (s.window.filter (fun sl => sl.status == .opened && decide (sl.deadline.atOrBefore s.time))).map
    (fun sl => .deadlineExpiry sl.epoch)

/-- The operations in flight, each with a code for its free value: the handling of a frame (R54), an edit
that no handling holds up (R11, R55), an emission (R144), a transmission that is not paused (R152, R153), an answer (R164). -/
def State.inFlight (s : State) : List (Nat × Instr) :=
  (if s.handling.isSome then [(0, .frameHandling)] else [])
    ++ (match s.port with
        | .editing _ _ (.insertion _ _) => if s.handling.isSome then [] else [(1, .insertionEditCompletion)]
        | .editing _ _ (.removal _ _) => if s.handling.isSome then [] else [(1, .removalEditCompletion)]
        | .answering _ => [(4, .answerSent)]
        | .idle => [])
    ++ (if s.emission.isSome then [(2, .emissionCompletion)] else [])
    ++ (if s.transmitting = true ∧ s.ready = true then [(3, .transmissionCompletion)] else [])

/-- The operations in flight that end in this period (a free value for each). -/
def State.endings (s : State) : List Instr :=
  (s.inFlight.filter (fun op => Config.endsIn s.periods op.1)).map (·.2)

/-- A list in the order the picks take its members (`fuel` at least its length). -/
def takeInOrder (pick : Nat → Nat) : Nat → List Instr → List Instr
  | 0, l => l
  | _ + 1, [] => []
  | _ + 1, [x] => [x]
  | fuel + 1, x :: y :: l =>
    let all := x :: y :: l
    let i := pick all.length % all.length
    all.getD i x :: takeInOrder pick fuel (all.eraseIdx i)

/-- The events that fall in the period that has just passed. -/
def State.eventsNow (s : State) : List Instr := s.timeouts ++ s.tickDue ++ s.expiriesDue ++ s.endings

/-- The step on an empty queue (log 2): held while the reset input is asserted; otherwise one reference period passes,
and its events join the queue in an order a free value gives (log 3). -/
def State.ownStep (s : State) : State :=
  if s.resetAsserted then s
  else
    let t := s.clockPeriod
    { t with pending := takeInOrder (Config.nextTaken t.periods) t.eventsNow.length t.eventsNow }

end Sys2Proof.Machine
end

