-- ==== Sys2Proof/Machine/Egress.lean ====
section
/-! DEFINITION. Building an aligned set, emission, transmission and the consumer's ready indication: the meanings of
EMISSION_BEGIN, EMISSION_COMPLETION, TRANSMISSION_BEGIN, TRANSMISSION_COMPLETION, READY_ASSERT and READY_WITHDRAW
(R144 to R161). -/

namespace Sys2Proof.Machine

/-! ### The aligned set (R157 to R160) -/

/-- R158, R159: the ABSENT entries, one for each expected index without an entry. -/
def Slot.absents (sl : Slot) : List SetEntry :=
  (sl.expected.filter (fun m => !sl.hasEntry m.1)).map (fun m => .absent m.1 m.2)

/-- The record index of an entry of a set. -/
def SetEntry.index : SetEntry → Nat
  | .present e => e.index
  | .absent i _ => i

/-- An entry joins a set's entries, which are kept in ascending order of record index. -/
def insertSetEntry (x : SetEntry) : List SetEntry → List SetEntry
  | [] => [x]
  | y :: ys => if x.index < y.index then x :: y :: ys else y :: insertSetEntry x ys

/-- R158: the entries of the slot's set in ascending order of record index. -/
def Slot.setEntries (sl : Slot) : List SetEntry :=
  sl.absents.foldl (fun acc x => insertSetEntry x acc) (sl.entries.map .present)

/-- R109, R157: the release cause of a slot. An OPEN slot has none and is never emitted (R144); COMPLETE stands in for
it where the function has to answer something. -/
def Slot.cause (sl : Slot) : ReleaseCause :=
  match sl.status with
  | .due c => c
  | .opened => .complete

/-- R157, R158: the aligned set built from a slot at output rate `rout`. -/
def buildSet (rout : Nat) (sl : Slot) : AlignedSet :=
  { header :=
      { epoch := sl.epoch, rout, cause := sl.cause, tbState := sl.tbState, wait := sl.wait
        expectedCount := sl.expected.length
        memberCount := sl.entries.countP (fun e => !e.extra)
        guestCount := sl.entries.countP (fun e => e.extra)
        entryCount := sl.setEntries.length }
    entries := sl.setEntries }

/-! ### Emission -/

/-- EMISSION_BEGIN (R144, log 6). -/
def execEmissionBegin (s : State) : Host.Outcome State Fault Refusal := .next s.beginEmission

/-- EMISSION_COMPLETION (R145, R148): the set is built, joins the buffer and is counted; then Release Logic tests for
the next emission, the port tests for a transmission (R152), and a drain may end (R134). -/
def execEmissionCompletion (s : State) : Host.Outcome State Fault Refusal :=
  match s.emission with
  | none => .next s
  | some sl =>
    .next ({ s with emission := none, egress := s.egress ++ [buildSet s.settings.rout sl]
                    counters := s.counters.bumpSet sl.cause }.beginEmission.beginTransmission.endDrain)

/-! ### Transmission (R152, R153) -/

/-- TRANSMISSION_BEGIN (R152, log 6). -/
def execTransmissionBegin (s : State) : Host.Outcome State Fault Refusal := .next s.beginTransmission

/-- TRANSMISSION_COMPLETION (R152): the set in transmission leaves the buffer; then an emission can begin (R144), and
the next transmission. A paused transmission sends no last byte (R153). -/
def execTransmissionCompletion (s : State) : Host.Outcome State Fault Refusal :=
  if s.transmitting = true ∧ s.ready = true then
    .next ({ s with egress := s.egress.drop 1, transmitting := false }.beginEmission.beginTransmission)
  else .next s

/-- READY_ASSERT (R152, R153): a paused transfer goes on, or a transmission begins. -/
def execReadyAssert (s : State) : Host.Outcome State Fault Refusal := .next { s with ready := true }.beginTransmission

/-- READY_WITHDRAW (R153): no transmission begins, and one in flight pauses where it stands. -/
def execReadyWithdraw (s : State) : Host.Outcome State Fault Refusal := .next { s with ready := false }

end Sys2Proof.Machine
end

