-- ==== Sys2Proof/Machine/Reset.lean ====
section
/-! DEFINITION. The reset input: the meanings of POWER_ON and RESET_INPUT_RELEASE (R6, R31, R33, R34, R45, R50, R65,
R127, R130, R136, R149, R150, R154, R167, R184, R188, R190). -/

namespace Sys2Proof.Machine

/-- POWER_ON: every field takes its power-on value and the reset input is asserted. The consumer's ready level is an
input and stays; `pending` and `periods` are the model's own. -/
def execPowerOn (s : State) : Host.Outcome State Fault Refusal :=
  .next { State.reset with
    pending := s.pending, periods := s.periods, ready := s.ready, resetAsserted := true }

/-- RESET_INPUT_RELEASE (R31): local time starts counting and the links begin to accept bytes. -/
def execResetInputRelease (s : State) : Host.Outcome State Fault Refusal := .next { s with resetAsserted := false }

end Sys2Proof.Machine
end

