-- ==== Sys2Proof/Machine/Dispatch.lean ====
section
/-! DEFINITION. The effect of each command: one arm per constructor of Instr. -/

namespace Sys2Proof.Machine

def exec (i : Instr) (s : State) : Host.Outcome State Fault Refusal :=
  match i with
  | .powerOn => Sys2Proof.Machine.execPowerOn s
  | .resetInputRelease => Sys2Proof.Machine.execResetInputRelease s
  | .ppsEdge => Sys2Proof.Machine.execPpsEdge s
  | .acquireTimeout => Sys2Proof.Machine.execAcquireTimeout s
  | .missingEdgeLimit => Sys2Proof.Machine.execMissingEdgeLimit s
  | .holdoverLimit => Sys2Proof.Machine.execHoldoverLimit s
  | .epochTick => Sys2Proof.Machine.execEpochTick s
  | .deadlineExpiry epoch => Sys2Proof.Machine.execDeadlineExpiry epoch s
  | .frameOffered bytes => Sys2Proof.Machine.execFrameOffered bytes s
  | .frameHandling => Sys2Proof.Machine.execFrameHandling s
  | .insertionEditCompletion => Sys2Proof.Machine.execInsertionEditCompletion s
  | .removalEditCompletion => Sys2Proof.Machine.execRemovalEditCompletion s
  | .emissionBegin => Sys2Proof.Machine.execEmissionBegin s
  | .emissionCompletion => Sys2Proof.Machine.execEmissionCompletion s
  | .transmissionBegin => Sys2Proof.Machine.execTransmissionBegin s
  | .transmissionCompletion => Sys2Proof.Machine.execTransmissionCompletion s
  | .readyAssert => Sys2Proof.Machine.execReadyAssert s
  | .readyWithdraw => Sys2Proof.Machine.execReadyWithdraw s
  | .managementBytes bytes => Sys2Proof.Machine.execManagementBytes bytes s
  | .answerSent => Sys2Proof.Machine.execAnswerSent s
  | .malformed => Sys2Proof.Machine.execMalformed s
  | .readEngine => Sys2Proof.Machine.execReadEngine s
  | .configureAlignment => Sys2Proof.Machine.execConfigureAlignment s
  | .configureTimebase => Sys2Proof.Machine.execConfigureTimebase s
  | .setTime => Sys2Proof.Machine.execSetTime s
  | .readTime => Sys2Proof.Machine.execReadTime s
  | .start => Sys2Proof.Machine.execStart s
  | .stopDrain => Sys2Proof.Machine.execStopDrain s
  | .stopFlush => Sys2Proof.Machine.execStopFlush s
  | .resetEngine => Sys2Proof.Machine.execResetEngine s
  | .setEngineCauseMask => Sys2Proof.Machine.execSetEngineCauseMask s
  | .takeEngineCauses => Sys2Proof.Machine.execTakeEngineCauses s
  | .registerStream => Sys2Proof.Machine.execRegisterStream s
  | .amendStream => Sys2Proof.Machine.execAmendStream s
  | .suspendStream => Sys2Proof.Machine.execSuspendStream s
  | .resumeStream => Sys2Proof.Machine.execResumeStream s
  | .resetStream => Sys2Proof.Machine.execResetStream s
  | .retireStream => Sys2Proof.Machine.execRetireStream s
  | .lookupStream => Sys2Proof.Machine.execLookupStream s
  | .listStreams => Sys2Proof.Machine.execListStreams s
  | .readStream => Sys2Proof.Machine.execReadStream s
  | .takeStreamCauses => Sys2Proof.Machine.execTakeStreamCauses s

end Sys2Proof.Machine
end

