-- ==== Sys2Proof/Machine/Step.lean ====
section
/-! DEFINITION. One step of the block: the command at the front of the queue, or what the part does on its own. -/

namespace Sys2Proof.Machine

/-- One step: the command at the front of the queue is carried out on the state with the queue's rest; on an empty
queue the part does what it does on its own (log 2). -/
def step (s : State) : Host.Outcome State Fault Refusal :=
  match s.pending with
  | c :: rest => exec c { s with pending := rest }
  | [] => .next s.ownStep

/-- `s` with the command that a table word spells at the front of its queue; no row of the table gives bits, so no
word spells one and `s` stays. -/
def State.withFetchWord (s : State) (nbits w : Nat) : State :=
  match decodeTableWord nbits w with
  | some c => { s with pending := c :: s.pending }
  | none => s

end Sys2Proof.Machine
end

