-- ==== Sys2Proof/Machine/Wire.lean ====
section
/-! DEFINITION. The bytes of what the part sends: answer messages (R193, R194) and aligned sets (R192), with ch11's
codes. -/

namespace Sys2Proof.Machine

/-! ### Codes (ch11) -/

/-- ch11. -/
def ReleaseCause.code : ReleaseCause → Nat
  | .complete => 0 | .deadline => 1 | .windowFull => 2 | .flush => 3

/-- ch11. -/
def TbState.code : TbState → Nat
  | .free => 0 | .acquiring => 1 | .locked => 2 | .holdover => 3

/-- ch11. -/
def RunState.code : RunState → Nat
  | .stopped => 0 | .running => 1 | .draining => 2

/-- ch11. -/
def RecState.code : RecState → Nat
  | .free => 0 | .pending => 1 | .active => 2 | .silent => 3 | .recovering => 4 | .suspended => 5 | .retiring => 6

/-- ch11. -/
def ClockState.code : ClockState → Nat
  | .locked => 0 | .unlocked => 1

/-- ch11. -/
def Status.code : Status → Nat
  | .done => 0 | .deferred => 1 | .state => 2 | .range => 3 | .rate => 4 | .exist => 5 | .full => 6
  | .notFound => 7 | .malformed => 8

/-- Item code 1. -/
def StreamClass.code : StreamClass → Nat
  | .member => 0 | .guest => 1

/-- Item code 18. -/
def WaitMode.code : WaitMode → Nat
  | .fixed => 0 | .adaptive => 1

/-- R194: an optional value: a presence byte, then the value when present. -/
def optionalBytes (size : Nat) : Option Nat → List Byte
  | none => [0]
  | some v => 1 :: beBytes size v

/-- One item of a list (section 9.4). -/
def itemBytes (code size : Nat) : Option Nat → List Byte
  | none => []
  | some v => BitVec.ofNat 8 code :: beBytes size v

/-! ### Answers (R193, R194) -/

/-- R194: the item list of codes 1 to 8 a pending amendment holds. Their order is open (R168), and ascending codes are the
model's choice (log 21). -/
def Amendment.bytes (m : Amendment) : List Byte :=
  itemBytes 1 1 (m.cls.map StreamClass.code) ++ itemBytes 2 1 (m.rotate.map Bool.toNat) ++ itemBytes 3 2 m.tau
    ++ itemBytes 4 2 m.rho ++ itemBytes 5 1 m.filterN ++ itemBytes 6 1 m.silenceLimit
    ++ itemBytes 7 1 m.qualityLimit ++ itemBytes 8 2 (m.watchMask.map BitVec.toNat)

/-- R194: a length byte, 0 when absent, then the list. -/
def amendmentField : Option Amendment → List Byte
  | none => [0]
  | some m => beBytes 1 m.bytes.length ++ m.bytes

/-- R169's fields in its order. -/
def EngineReport.bytes (r : EngineReport) : List Byte :=
  beBytes 1 r.run.code ++ beBytes 1 r.tbState.code ++ beBytes 1 r.openSlots ++ beBytes 1 r.dueSlots
    ++ beBytes 1 r.occupancy ++ beBytes 2 r.freeRecords ++ optionalBytes 4 r.newestWait
    ++ beBytes 1 r.settings.rout ++ beBytes 1 r.settings.f0 ++ beBytes 1 r.settings.mode.code
    ++ beBytes 4 r.settings.wFixed ++ beBytes 4 r.settings.wMin ++ beBytes 4 r.settings.wMax
    ++ beBytes 1 r.settings.margin ++ beBytes 4 r.tbSettings.tolerance ++ beBytes 4 r.tbSettings.stepLimit
    ++ beBytes 2 r.tbSettings.holdoverLimit ++ beBytes 1 r.mask.toNat
    ++ beBytes 4 r.counters.sets ++ beBytes 4 r.counters.complete ++ beBytes 4 r.counters.deadline
    ++ beBytes 4 r.counters.windowFull ++ beBytes 4 r.counters.flush ++ beBytes 4 r.counters.skipped
    ++ beBytes 4 r.counters.dropped ++ beBytes 4 r.counters.unknown

/-- R194's counters, in R179's order. -/
def RecordCounters.bytes (c : RecordCounters) : List Byte :=
  beBytes 4 c.placed ++ beBytes 4 c.late ++ beBytes 4 c.duplicate ++ beBytes 4 c.decimated ++ beBytes 4 c.misaligned
    ++ beBytes 4 c.ahead ++ beBytes 4 c.shape ++ beBytes 4 c.refused ++ beBytes 4 c.idle

/-- R179's fields in its order. -/
def recordBytes (i : Nat) (r : Record) : List Byte :=
  beBytes 2 i ++ beBytes 1 r.state.code ++ beBytes 4 r.streamId ++ beBytes 1 r.cls.code ++ beBytes 1 r.rs
    ++ beBytes 3 r.tb ++ beBytes 1 r.p ++ beBytes 1 r.a ++ beBytes 1 r.opts.rotate.toNat ++ beBytes 2 r.opts.tau
    ++ beBytes 2 r.opts.rho ++ beBytes 1 r.opts.filterN ++ beBytes 1 r.opts.silenceLimit
    ++ beBytes 1 r.opts.qualityLimit ++ beBytes 2 r.opts.watchMask.toNat ++ beBytes 1 r.opts.causeEnable.toNat
    ++ amendmentField r.amend ++ beBytes 1 r.history.length ++ r.history.flatMap (beBytes 3)
    ++ optionalBytes 3 r.filtered ++ beBytes 1 r.clock.code ++ beBytes 1 r.disagree ++ beBytes 1 r.silence
    ++ beBytes 1 r.recovery ++ beBytes 1 r.held ++ beBytes 1 r.causes.toNat ++ r.counters.bytes

/-- R194: the bytes of an answer's return fields. That the "more" and the found flag are 1 when set and 0 when clear is
the model's choice (log 22). -/
def ReturnFields.bytes : ReturnFields → List Byte
  | .none => []
  | .engine r => r.bytes
  | .time t tb armed => beBytes 4 t.sec ++ beBytes 4 t.ns ++ beBytes 1 tb.code ++ optionalBytes 4 armed
  | .causes c => beBytes 1 c.toNat
  | .index i => beBytes 2 i
  | .lookup i st => beBytes 2 i ++ beBytes 1 st.code
  | .pairs ps more =>
    beBytes 1 ps.length ++ ps.flatMap (fun p => beBytes 4 p.1 ++ beBytes 2 p.2) ++ beBytes 1 more.toNat
  | .stream i r => recordBytes i r
  | .taken i id c => 1 :: (beBytes 2 i ++ beBytes 4 id ++ beBytes 1 c.toNat)
  | .noneFound => [0]

/-- R193: a 4-byte header (kind as received, tag, status, body length), then the return fields. -/
def Answer.bytes (a : Answer) : List Byte :=
  [a.kind, a.tag, BitVec.ofNat 8 a.status.code, BitVec.ofNat 8 a.ret.bytes.length] ++ a.ret.bytes

/-! ### Aligned sets (R192) -/

/-- R192's flags byte: bit 7 PRESENT, bit 6 ROTATED, bit 5 SUSPECT, bit 4 EXTRA. -/
def SetEntry.flagsByte : SetEntry → Nat
  | .absent _ _ => 0
  | .present e =>
    128 + (if e.align = .rotated then 64 else 0) + (if e.suspect then 32 else 0) + (if e.extra then 16 else 0)

/-- R192: a PRESENT entry's data from its phasor count on. -/
def Measured.bytes (m : Measured) : List Byte :=
  beBytes 1 m.phasors.length ++ beBytes 1 m.analogs.length
    ++ m.phasors.flatMap (fun ph => beBytes 2 ph.magnitude.toNat ++ beBytes 2 ph.angle.toNat)
    ++ beBytes 2 m.freqDev.toNat ++ beBytes 2 m.rocof.toNat ++ m.analogs.flatMap (fun a => beBytes 2 a.toNat)
    ++ beBytes 2 m.digital.toNat

/-- R192: an entry of the set. -/
def SetEntry.bytes (x : SetEntry) : List Byte :=
  match x with
  | .absent i id => beBytes 2 i ++ beBytes 1 x.flagsByte ++ beBytes 4 id
  | .present e =>
    beBytes 2 e.index ++ beBytes 1 x.flagsByte ++ beBytes 4 e.streamId ++ beBytes 2 e.flags.toNat
      ++ beBytes 4 (BitVec.ofInt 32 e.residual).toNat ++ beBytes 3 e.latency ++ e.data.bytes

/-- R192: the 20-byte header. -/
def SetHeader.bytes (h : SetHeader) : List Byte :=
  beBytes 4 h.epoch.sec ++ beBytes 1 h.epoch.k ++ beBytes 1 h.rout ++ beBytes 1 h.cause.code
    ++ beBytes 1 h.tbState.code ++ beBytes 4 h.wait ++ beBytes 2 h.expectedCount ++ beBytes 2 h.memberCount
    ++ beBytes 2 h.guestCount ++ beBytes 2 h.entryCount

/-- R192: the transfer of a set. -/
def AlignedSet.bytes (a : AlignedSet) : List Byte := a.header.bytes ++ a.entries.flatMap SetEntry.bytes

end Sys2Proof.Machine
end

