-- ==== Sys2Proof/Safety.lean ====
section
/-! DEFINITION. The vocabulary of the statements: a command message at the port, and the invariants that the rules of
the spec give the part. -/

namespace Sys2Proof.Machine

/-! ### A command message at the management port -/

/-- No command is in progress, and the oldest message of the queue is `m`, with `rest` behind it (R164). -/
def State.offers (m : Message) (rest : List Message) (s : State) : Prop := s.port = .idle ∧ s.queue = m :: rest

/-- The row of a message's command (R193's kinds; STOP's mode byte tells DRAIN from FLUSH, log 15). -/
def Message.command (m : Message) : Instr :=
  match m.kind.toNat with
  | 1 => .readEngine
  | 2 => .configureAlignment
  | 3 => .configureTimebase
  | 4 => .setTime
  | 5 => .readTime
  | 6 => .start
  | 7 => if m.len = 1 ∧ fieldAt m.body 0 1 = 1 then .stopFlush else .stopDrain
  | 8 => .resetEngine
  | 9 => .setEngineCauseMask
  | 10 => .takeEngineCauses
  | 16 => .registerStream
  | 17 => .amendStream
  | 18 => .suspendStream
  | 19 => .resumeStream
  | 20 => .resetStream
  | 21 => .retireStream
  | 22 => .lookupStream
  | 23 => .listStreams
  | 24 => .readStream
  | 25 => .takeStreamCauses
  | _ => .malformed

/-- The two events at which the port tests for a command to start (R164). -/
def testsForStart (c : Instr) : Prop := c = .answerSent ∨ ∃ bytes, c = .managementBytes bytes

/-- `s` with the oldest message gone from the queue and its answer being sent (R164, R165). -/
def State.replied (m : Message) (rest : List Message) (status : Status) (ret : ReturnFields) (s : State) : State :=
  { s with queue := rest, port := .answering { kind := m.kind, tag := m.tag, status, ret } }

/-- `s` with the oldest message gone from the queue and its directory edit in flight (R11, R164). -/
def State.edits (m : Message) (rest : List Message) (edit : Edit) (s : State) : State :=
  { s with queue := rest, port := .editing m.kind m.tag edit }

/-- The commands that the port starts for a queued message (R193). -/
def managementCommands : List Instr :=
  [.malformed, .readEngine, .configureAlignment, .configureTimebase, .setTime, .readTime, .start, .stopDrain,
    .stopFlush, .resetEngine, .setEngineCauseMask, .takeEngineCauses, .registerStream, .amendStream, .suspendStream,
    .resumeStream, .resetStream, .retireStream, .lookupStream, .listStreams, .readStream, .takeStreamCauses]

/-- The commands whose bodies have one length, with their kinds and lengths (R166, R169, R172 to R174, R177 to R179). -/
def fixedLengths : List (Instr × Nat × Nat) :=
  [(.readEngine, 1, 1), (.setTime, 4, 4), (.readTime, 5, 0), (.start, 6, 0), (.stopDrain, 7, 1), (.stopFlush, 7, 1),
    (.resetEngine, 8, 0), (.setEngineCauseMask, 9, 1), (.takeEngineCauses, 10, 0), (.suspendStream, 18, 4),
    (.resumeStream, 19, 4), (.resetStream, 20, 4), (.retireStream, 21, 4), (.lookupStream, 22, 4),
    (.listStreams, 23, 4), (.readStream, 24, 6), (.takeStreamCauses, 25, 0)]

/-! ### The parts of a state that the statements speak of -/

/-- R16, R57: the directory holds the stream ID. -/
def State.knows (id : Nat) (s : State) : Prop := ∃ p ∈ s.directory, p.1 = id

/-- R144: an emission could begin were the oldest slot DUE. -/
def State.hasRoom (s : State) : Prop := s.emission = none ∧ s.egress.length ≤ 3

/-- An ingress frame laid out by R191: the header's fields, then the counts and the measured data, whose layout is the
same in an aligned set (R192). -/
def frameBytes (id soc quality frac : Nat) (flags : BitVec 16) (m : Measured) : List Byte :=
  beBytes 4 id ++ beBytes 4 soc ++ beBytes 1 quality ++ beBytes 3 frac ++ beBytes 2 flags.toNat ++ m.bytes

/-- An item of a list as it travels (section 9.4): its code, then its value in `size` bytes. -/
def Item.wire (size : Nat) (item : Item) : List Byte := BitVec.ofNat 8 item.1 :: beBytes size item.2

/-! ### Opening a slot (R24, R47, R98 to R100, R113, R143) -/

/-- `t` is `s` after an accepted tick for `e`. The amendments are applied and silence is counted in every record, the
records that fall SILENT leave the expected sets, and then the slot opens with the records as they now stand, DUE with
DEADLINE at once where its deadline has passed. -/
def State.opensSlot (e : Epoch) (s t : State) : Prop :=
  ∃ (u : State) (fell : List Nat),
    u = { s with records := u.records, window := u.window } ∧
    u.records.length = s.records.length ∧
    (∀ i, u.record i = ((s.record i).settleAmendment).countSilence s.settings.rout e.k) ∧
    (∀ i, i ∈ fell ↔ (s.record i).state = .active ∧ (u.record i).state = .silent) ∧
    u.window = s.window.map (fun sl => fell.foldl (fun acc i => acc.dropExpected i) sl) ∧
    t = State.beginEmission { u with
      newest := some { epoch := e, wait := u.waitNow }
      window := u.window ++
        [{ epoch := e
           status := if (deadlineOf s.settings.rout e u.waitNow).atOrBefore s.time then .due .deadline else .opened
           tbState := s.tb.state
           wait := u.waitNow
           deadline := deadlineOf s.settings.rout e u.waitNow
           snapshot := (u.expectedSet e.k).length
           expected := u.expectedSet e.k
           entries := [] }] }

/-! ### Capacities (R53, R108, R150, R163, R164) -/

/-- Every buffer is within its capacity, and a set in transmission stands in the egress buffer. A message in reception
is unfinished and has a place in the queue (R163); no message waits while no command is in progress (R164), and no frame
while intake could take it (R54). -/
def State.WithinCapacity (s : State) : Prop :=
  s.records.length = 1024 ∧ s.fifo.length ≤ 256 ∧ s.window.length ≤ 64 ∧ s.queue.length ≤ 8 ∧
    s.egress.length + (if s.emission = none then 0 else 1) ≤ 4 ∧ (s.transmitting = true → s.egress ≠ []) ∧
    Message.ofWire s.reception = none ∧ (s.reception ≠ [] → s.queue.length < 8) ∧ (s.port = .idle → s.queue = []) ∧
    (s.fifo ≠ [] → s.handling ≠ none ∨ s.editInFlight = true)

/-! ### Time and settings (R31, R34, R136) -/

/-- R31: a local time of the range. -/
def LocalTime.valid (t : LocalTime) : Prop := t.sec ≤ 4294967295 ∧ t.ns ≤ 999999992 ∧ t.ns % 8 = 0

/-- R34: settings within their ranges. -/
def TbSettings.valid (g : TbSettings) : Prop :=
  100 ≤ g.tolerance ∧ g.tolerance ≤ 100000 ∧ 100 ≤ g.stepLimit ∧ g.stepLimit ≤ 100000 ∧
    1 ≤ g.holdoverLimit ∧ g.holdoverLimit ≤ 3600

/-- R34: what is staged lies within the ranges of the settings. -/
def TbStaged.valid (g : TbStaged) : Prop :=
  (∀ v ∈ g.tolerance, 100 ≤ v ∧ v ≤ 100000) ∧ (∀ v ∈ g.stepLimit, 100 ≤ v ∧ v ≤ 100000) ∧
    (∀ v ∈ g.holdoverLimit, 1 ≤ v ∧ v ≤ 3600)

/-- Section 2.4: the timebase's fields agree with its state. FREE has no previous capture and counts of 0, every other
state has one; the good count is below 2 in ACQUIRING, and the bad count is below 2. -/
def Timebase.valid (b : Timebase) : Prop :=
  b.inForce.valid ∧ b.staged.valid ∧ (∀ v ∈ b.armed, v ≤ 4294967295) ∧
    (b.state = .free ↔ b.prevCapture = none) ∧ (b.state = .free → b.good = 0 ∧ b.bad = 0) ∧
    (b.state = .acquiring → b.good < 2) ∧ b.bad < 2

/-- R136: the alignment settings within their ranges, Wmin not above Wmax. -/
def AlignSettings.valid (g : AlignSettings) : Prop :=
  g.rout ∈ outputRates ∧ (g.f0 = 50 ∨ g.f0 = 60) ∧ 1000 ≤ g.wFixed ∧ g.wFixed ≤ 10000000 ∧
    1000 ≤ g.wMin ∧ g.wMin ≤ 10000000 ∧ 1000 ≤ g.wMax ∧ g.wMax ≤ 10000000 ∧ g.margin ≤ 127 ∧ g.wMin ≤ g.wMax

/-- Local time, the timebase and the alignment settings are within their ranges. -/
def State.InRange (s : State) : Prop := s.time.valid ∧ s.tb.valid ∧ s.settings.valid

/-! ### The run and the order of its slots (R45, R108, R115, R134, R146) -/

/-- R45, R134: a STOPPED engine has an empty window and no emission; a DRAINING one has a slot or an emission; only a
RUNNING one has a next epoch. -/
def State.RunConsistent (s : State) : Prop :=
  (s.run = .stopped → s.window = [] ∧ s.emission = none) ∧
    (s.run = .draining → s.window ≠ [] ∨ s.emission ≠ none) ∧
    (s.run ≠ .running → s.nextEpoch = none)

/-- The emission in flight and the window, oldest first: the slots of the run that have not become sets. -/
def State.slots (s : State) : List Slot := s.emission.toList ++ s.window

/-- R108, R115, R146: slots stand in strictly ascending key order, none is newer than the run's newest epoch, and the
next epoch is newer than that. -/
def State.InOrder (s : State) : Prop :=
  (s.slots.map (fun sl => sl.epoch.key s.settings.rout)).Pairwise (· < ·) ∧
    (∀ sl ∈ s.slots, ∃ n ∈ s.newest, sl.epoch.key s.settings.rout ≤ n.epoch.key s.settings.rout) ∧
    (∀ e ∈ s.nextEpoch, e.sec ≤ 4294967295 ∧ e.k < s.settings.rout ∧
      ∀ n ∈ s.newest, n.epoch.key s.settings.rout < e.key s.settings.rout)

/-- R146, R150: past the `old` sets of earlier runs, the buffer's sets and then the slots of the run stand in strictly
ascending key order, none newer than the run's newest epoch. -/
def State.SetsInOrder (old : Nat) (s : State) : Prop :=
  let keys := (s.egress.drop old).map (fun a => a.header.epoch.key a.header.rout) ++
    s.slots.map (fun sl => sl.epoch.key s.settings.rout)
  old ≤ s.egress.length ∧ keys.Pairwise (· < ·) ∧
    (s.run ≠ .stopped → ∀ key ∈ keys, ∃ n ∈ s.newest, key ≤ n.epoch.key s.settings.rout)

/-- The run invariant. -/
def State.Running (s : State) : Prop := s.InRange ∧ s.RunConsistent ∧ s.InOrder

/-! ### Directory and registry (R10, R11) -/

/-- R10: pairs in ascending order of ID, each naming a record of the five states that holds the ID; every such record
has its pair. An insertion edit's index is FREE and its ID new, and a removal edit's pair stands in the directory. -/
def State.DirectorySound (s : State) : Prop :=
  s.records.length = 1024 ∧ (s.directory.map (·.1)).Pairwise (· < ·) ∧
    (∀ p ∈ s.directory, p.1 ≠ 0 ∧ p.2 < 1024 ∧ (s.record p.2).state.inDirectory = true ∧
      (s.record p.2).streamId = p.1) ∧
    (∀ i < 1024, (s.record i).state.inDirectory = true → ((s.record i).streamId, i) ∈ s.directory) ∧
    (match s.port with
      | .editing _ _ (.insertion i g) =>
        i < 1024 ∧ (s.record i).state = .free ∧ g.streamId ≠ 0 ∧ ∀ p ∈ s.directory, p.1 ≠ g.streamId
      | .editing _ _ (.removal id i) => (id, i) ∈ s.directory
      | .idle => True
      | .answering _ => True)

/-- R5, R30, R125: a record's held count is the number of window slots with its entry; a RETIRING record has one; a
FREE record holds the FREE values. -/
def State.HeldCounted (s : State) : Prop :=
  ∀ i < 1024, (s.record i).held = s.window.countP (fun sl => sl.hasEntry i) ∧
    ((s.record i).state = .retiring → 0 < (s.record i).held) ∧
    ((s.record i).state = .free → s.record i = Record.vacant)

/-- The registry invariant. -/
def State.Registered (s : State) : Prop := s.Running ∧ s.DirectorySound ∧ s.HeldCounted

/-! ### Records (R1 to R3, R17, R90 to R101) -/

/-- R2: options within their ranges. -/
def Options.valid (o : Options) : Prop :=
  o.tau ≤ 5000 ∧ o.rho ≤ 10000 ∧ o.filterN ∈ [1, 2, 4, 8] ∧ 2 ≤ o.silenceLimit ∧ o.silenceLimit ≤ 255 ∧
    o.qualityLimit ≤ 15

/-- R2, R23: what a pending amendment holds lies within the ranges of the options. -/
def Amendment.valid (m : Amendment) : Prop :=
  (∀ v ∈ m.tau, v ≤ 5000) ∧ (∀ v ∈ m.rho, v ≤ 10000) ∧ (∀ v ∈ m.filterN, v ∈ [1, 2, 4, 8]) ∧
    (∀ v ∈ m.silenceLimit, 2 ≤ v ∧ v ≤ 255) ∧ (∀ v ∈ m.qualityLimit, v ≤ 15)

/-- R1: identity and shape fields of a registration within their ranges. -/
def Registration.valid (g : Registration) : Prop :=
  1 ≤ g.streamId ∧ g.streamId ≤ 4294967295 ∧ g.rs ∈ streamRates ∧ 1 ≤ g.tb ∧ g.tb ≤ 16777215 ∧ g.p ≤ 12 ∧ g.a ≤ 4 ∧
    g.opts.valid

/-- R3: the health fields. F is the filter's value of the history and present in ACTIVE (R91, R92); the recovery count
is 1 exactly in RECOVERING (R101), whose silence count is below 2 (R100); an ACTIVE record's silence count has not
passed the greatest limit (R99). -/
def Record.healthy (r : Record) : Prop :=
  r.history.length ≤ 8 ∧ (∀ l ∈ r.history, l ≤ 16777215) ∧ r.filtered = filteredLatency r.opts.filterN r.history ∧
    (r.state = .active → r.history ≠ []) ∧ r.recovery = (if r.state = .recovering then 1 else 0) ∧
    r.disagree ≤ 1 ∧ r.silence ≤ 255 ∧ (r.state = .active → r.silence < 255) ∧
    (r.state = .recovering → r.silence < 2)

/-- R1 to R3: a record's fields within their ranges. -/
def Record.valid (r : Record) : Prop :=
  r.opts.valid ∧ (∀ m ∈ r.amend, m.valid) ∧ r.healthy ∧
    (r.state ≠ .free → 1 ≤ r.streamId ∧ r.streamId ≤ 4294967295 ∧ r.rs ∈ streamRates ∧ 1 ≤ r.tb ∧ r.tb ≤ 16777215 ∧
      r.p ≤ 12 ∧ r.a ≤ 4)

/-- Every record, and the registration of an insertion edit in flight, is within its ranges. -/
def State.RecordsValid (s : State) : Prop :=
  (∀ r ∈ s.records, r.valid) ∧
    (match s.port with
      | .editing _ _ (.insertion _ g) => g.valid
      | .editing _ _ (.removal _ _) => True
      | .idle => True
      | .answering _ => True)

/-- R17, R138: every record that is not FREE, and a registration in flight, fits the output rate in force. -/
def State.RatesFit (s : State) : Prop :=
  (∀ r ∈ s.records, r.state ≠ .free → rateCompatible r.rs s.settings.rout = true) ∧
    (match s.port with
      | .editing _ _ (.insertion _ g) => rateCompatible g.rs s.settings.rout = true
      | .editing _ _ (.removal _ _) => True
      | .idle => True
      | .answering _ => True)

/-! ### Slots and sets (R109 to R111, R121, R137, R157 to R160) -/

/-- R109 to R111: a slot's entries and expected set stand in ascending order of index, an entry is EXTRA exactly when
its index is not expected (R160), and the expected set has not grown since the opening (R110). A slot is OPEN only
while it is not complete, and DUE with COMPLETE only when it is (R121). Its W lies from 1,000 to Wcap (R137) and its
deadline is the one of its epoch and W (R141). -/
def Slot.sound (rout : Nat) (sl : Slot) : Prop :=
  (sl.entries.map (·.index)).Pairwise (· < ·) ∧ (sl.expected.map (·.1)).Pairwise (· < ·) ∧
    (∀ e ∈ sl.entries, e.extra = !sl.expects e.index) ∧ sl.expected.length ≤ sl.snapshot ∧
    (sl.status = .opened → sl.isComplete = false) ∧ (sl.status = .due .complete → sl.isComplete = true) ∧
    1000 ≤ sl.wait ∧ sl.wait ≤ waitCap rout ∧ sl.deadline = deadlineOf rout sl.epoch sl.wait

/-- Whether an entry of a set is ABSENT (R159). -/
def SetEntry.isAbsent : SetEntry → Bool
  | .present _ => false
  | .absent _ _ => true

/-- R158, R160: the entries ascend by index, and the header's counts agree with them. -/
def AlignedSet.agrees (a : AlignedSet) : Prop :=
  (a.entries.map SetEntry.index).Pairwise (· < ·) ∧
    a.header.entryCount = a.entries.length ∧
    a.header.memberCount = a.entries.countP (fun x => match x with | .present e => !e.extra | .absent _ _ => false) ∧
    a.header.guestCount = a.entries.countP (fun x => match x with | .present e => e.extra | .absent _ _ => false) ∧
    a.entries.countP SetEntry.isAbsent + a.header.memberCount = a.header.expectedCount ∧
    a.header.entryCount = a.header.expectedCount + a.header.guestCount ∧
    (a.header.cause = .complete → a.entries.countP SetEntry.isAbsent = 0)

/-- Every slot of the window and of an emission in flight is sound, the latter DUE, and every set in the buffer agrees
with its header. -/
def State.SlotsSound (s : State) : Prop :=
  s.Running ∧ (∀ sl ∈ s.slots, sl.sound s.settings.rout) ∧ (∀ sl ∈ s.emission, sl.status ≠ .opened) ∧
    (∀ a ∈ s.egress, a.agrees)

end Sys2Proof.Machine
end

