-- ==== Sys2Proof/Certificates/Slice0/Obligations.lean ====
section
/-! DEFINITION. The statements for the provers. `[n]` in a docstring is a row of the assumption log: a choice of the
model's, not a rule of the spec. -/

open Sys2Proof Sys2Proof.Machine

/-! ### The queue of commands -/

/-- A step with a command at the front of the queue is that command's effect on the state with the queue's rest. -/
def Obligations.StepRunsFrontCommand : Prop :=
  ∀ (c : Instr) (rest : List Instr) (s : State),
    step { s with pending := c :: rest } = exec c { s with pending := rest }

/-- The step on an empty queue is the model's choice [2]: the part is held while the reset input is asserted (R31);
otherwise one reference period passes, and the events that fall in it join the queue in some order [3]: the timeout that
the timebase has reached (R37, R39, R40), the tick of the next epoch (R46), the expiry of every OPEN slot whose deadline is
reached (R142), and the ends of the operations in flight, each after a time that the spec leaves open [4]. The interval since
the last capture and the time in HOLDOVER count periods (R33, R40), and stand at 0 where no rule reads them [17].
R31: a reference period advances local time by 8 ns, the seconds wrapping at the end of their range. -/
def Obligations.EmptyQueueStep : Prop :=
  (∀ s : State, s.pending = [] →
     (s.resetAsserted = true → step s = .next s) ∧
     (s.resetAsserted = false →
       ∃ t, step s = .next t ∧
         t = { s with
           time := s.time.advance
           tb := { s.tb with
             sinceCapture := if s.tb.prevCapture = none then 0 else s.tb.sinceCapture + 1
             inHoldover := if s.tb.state = .holdover then s.tb.inHoldover + 1 else 0 }
           periods := s.periods + 1
           pending := t.pending } ∧
         ∃ ends : Nat → Bool, t.pending.Perm (
           (if t.tb.state = .acquiring ∧ 3000000000 ≤ t.tb.sinceCapture * 8 then [.acquireTimeout] else []) ++
           (if t.tb.state = .locked ∧ 1500000000 ≤ t.tb.sinceCapture * 8 then [.missingEdgeLimit] else []) ++
           (if t.tb.state = .holdover ∧ t.tb.inForce.holdoverLimit * 1000000000 ≤ t.tb.inHoldover * 8 then
             [.holdoverLimit] else []) ++
           (if t.run = .running ∧ ∃ e ∈ t.nextEpoch, (e.instant t.settings.rout).atOrBefore t.time then
             [.epochTick] else []) ++
           (t.window.filter (fun sl => sl.status = .opened ∧ sl.deadline.atOrBefore t.time)).map
             (fun sl => .deadlineExpiry sl.epoch) ++
           (if t.handling ≠ none ∧ ends 0 = true then [.frameHandling] else []) ++
           (match t.port with
            | .editing _ _ (.insertion _ _) =>
              if t.handling = none ∧ ends 1 = true then [.insertionEditCompletion] else []
            | .editing _ _ (.removal _ _) =>
              if t.handling = none ∧ ends 1 = true then [.removalEditCompletion] else []
            | .answering _ => if ends 4 = true then [.answerSent] else []
            | .idle => []) ++
           (if t.emission ≠ none ∧ ends 2 = true then [.emissionCompletion] else []) ++
           (if (t.transmitting = true ∧ t.ready = true) ∧ ends 3 = true then [.transmissionCompletion] else [])))) ∧
  (∀ t : LocalTime, t.valid →
     t.advance.valid ∧
     (t.ns < 999999992 → t.advance = { sec := t.sec, ns := t.ns + 8 }) ∧
     (t.ns = 999999992 → t.sec < 4294967295 → t.advance = { sec := t.sec + 1, ns := 0 }) ∧
     (t.ns = 999999992 → t.sec = 4294967295 → t.advance = { sec := 0, ns := 0 }))

/-- Every row is answered by a next state in every state, and every state has a next one: the model neither faults nor
refuses. Where a row's event cannot occur the answer is the state as it is, which is the model's choice [1]. A row leaves the
model's own fields as they are: the queue of waiting commands, and the number of the reference period [19]. -/
def Obligations.EveryCommandCompletes : Prop :=
  (∀ (c : Instr) (s : State), ∃ t, exec c s = .next t ∧ t.pending = s.pending ∧ t.periods = s.periods) ∧
  (∀ s : State, ∃ t, step s = .next t)

/-- A row whose event cannot occur in the state leaves it as it is: the model's choice [1]. The completion of an edit cannot
occur where no edit of its kind is in flight, nor while a frame is being handled (R11, R55). -/
def Obligations.RowsWithoutTheirEvent : Prop :=
  ∀ s : State,
    (∀ e, (s.nextEpoch = none ∨ s.run ≠ .running ∨
        (s.nextEpoch = some e ∧ ¬ (e.instant s.settings.rout).atOrBefore s.time)) →
      exec .epochTick s = .next s) ∧
    (∀ e, (∀ sl ∈ s.window, sl.epoch = e → sl.status = .opened → ¬ sl.deadline.atOrBefore s.time) →
      exec (.deadlineExpiry e) s = .next s) ∧
    (s.handling = none → (s.fifo = [] ∨ s.editInFlight = true) → exec .frameHandling s = .next s) ∧
    (((∀ kind tag i g, s.port ≠ .editing kind tag (.insertion i g)) ∨ s.handling ≠ none) →
      exec .insertionEditCompletion s = .next s) ∧
    (((∀ kind tag id i, s.port ≠ .editing kind tag (.removal id i)) ∨ s.handling ≠ none) →
      exec .removalEditCompletion s = .next s) ∧
    (s.emission = none → exec .emissionCompletion s = .next s) ∧
    ((s.transmitting = false ∨ s.ready = false) → exec .transmissionCompletion s = .next s) ∧
    ((∀ a, s.port ≠ .answering a) → exec .answerSent s = .next s) ∧
    ((s.tb.state ≠ .acquiring ∨ s.tb.sinceCapture < 375000000) → exec .acquireTimeout s = .next s) ∧
    ((s.tb.state ≠ .locked ∨ s.tb.sinceCapture < 187500000) → exec .missingEdgeLimit s = .next s) ∧
    ((s.tb.state ≠ .holdover ∨ s.tb.inHoldover * 8 < s.tb.inForce.holdoverLimit * 1000000000) →
      exec .holdoverLimit s = .next s)

/-! ### Reset -/

/-- POWER_ON gives every register, buffer and counter its power-on value, abandons what is in flight, and deasserts both
attention lines: R5, R6 (records, directory, edit), R31, R34 (local time, timebase), R45 (next epoch), R55, R65 (intake), R127
(window), R130, R136 (run state, settings), R149 (counters), R150 (egress), R163, R167 (management), R184 (scan pointer),
R188, R190 (mask, causes, lines). The timebase's two measures are 0 where there is no capture and no HOLDOVER [17]. -/
def Obligations.PowerOnEmptiesThePart : Prop :=
  Record.vacant =
    { state := .free, streamId := 0, cls := .member, rs := 0, tb := 0, p := 0, a := 0,
      opts :=
        { rotate := false, tau := 100, rho := 0, filterN := 4, silenceLimit := 100, qualityLimit := 15, watchMask := 0,
          causeEnable := StreamCause.silent ||| StreamCause.recovered ||| StreamCause.clock },
      amend := none, history := [], filtered := none, clock := .locked, disagree := 0, silence := 0, recovery := 0,
      held := 0, causes := 0,
      counters :=
        { placed := 0, late := 0, duplicate := 0, decimated := 0, misaligned := 0, ahead := 0, shape := 0,
          refused := 0, idle := 0 } } ∧
  ∀ s : State, ∃ t, exec .powerOn s = .next t ∧
    t.records = List.replicate 1024 Record.vacant ∧ (∀ i, (t.record i).held = 0) ∧ t.directory = [] ∧
    t.port = .idle ∧ t.queue = [] ∧ t.reception = [] ∧ t.fifo = [] ∧ t.handling = none ∧ t.window = [] ∧
    t.newest = none ∧ t.nextEpoch = none ∧
    t.run = .stopped ∧ t.emission = none ∧ t.egress = [] ∧ t.transmitting = false ∧
    t.counters =
      { sets := 0, complete := 0, deadline := 0, windowFull := 0, flush := 0, skipped := 0, dropped := 0,
        unknown := 0 } ∧
    t.settings =
      { rout := 50, f0 := 50, mode := .adaptive, wFixed := 500000, wMin := 20000, wMax := 2000000, margin := 32 } ∧
    t.time = { sec := 0, ns := 0 } ∧
    t.tb =
      { state := .free, good := 0, bad := 0, prevCapture := none, sinceCapture := 0, inHoldover := 0,
        inForce := { tolerance := 2000, stepLimit := 1000, holdoverLimit := 600 },
        staged := { tolerance := none, stepLimit := none, holdoverLimit := none }, armed := none } ∧
    t.causes = 0 ∧ t.mask = 0b111111 ∧ t.scanPtr = 1023 ∧
    t.attnS = false ∧ t.attnE = false

/-- R31: the release of the reset input changes nothing but the input. POWER_ON leaves the input asserted [7] and the
links not ready (R167); the part after power-on and release is State.reset, but for the input `ready`, which stays as it
was [8], and the model's own two fields [19]. -/
def Obligations.ReleaseReachesReset : Prop :=
  (∀ s : State, exec .resetInputRelease s = .next { s with resetAsserted := false }) ∧
  (∀ s : State, ∃ t, exec .powerOn s = .next t ∧ t.resetAsserted = true ∧ t.mgmtReady = false ∧
    exec .resetInputRelease t =
      .next { State.reset with ready := s.ready, pending := s.pending, periods := s.periods })

/-! ### Timebase -/

/-- R33: an interval is good within the PPS tolerance of a second, and the phase error is the distance to the nearest
second. R32, R43: a step lands on (armed value, 0), or on the nearest whole second; that the second after the last of the
range is second 0 for a step too is the model's reading [10]. -/
def Obligations.IntervalsErrorsAndTargets : Prop :=
  (∀ b : Timebase, b.goodInterval = true ↔
    b.prevCapture ≠ none ∧ 1000000000 ≤ b.sinceCapture * 8 + b.inForce.tolerance ∧
      b.sinceCapture * 8 ≤ 1000000000 + b.inForce.tolerance) ∧
  (∀ n : Nat, n < 500000000 → phaseError n = n) ∧
  (∀ n : Nat, 500000000 ≤ n → phaseError n = (n : Int) - 1000000000) ∧
  (∀ (b : Timebase) (t : LocalTime) (v : Nat), b.armed = some v → b.stepTarget t = { sec := v, ns := 0 }) ∧
  (∀ (b : Timebase) (t : LocalTime), b.armed = none → t.valid →
    (t.ns < 500000000 → b.stepTarget t = { sec := t.sec, ns := 0 }) ∧
    (500000000 ≤ t.ns → t.sec < 4294967295 → b.stepTarget t = { sec := t.sec + 1, ns := 0 }) ∧
    (500000000 ≤ t.ns → t.sec = 4294967295 → b.stepTarget t = { sec := 0, ns := 0 }))

/-- R35, R36, R38, R40: the edges that do not step local time. Every one applies the staged settings first (R34), and
its capture becomes the previous one (R33). An edge under the reset input is ignored (R33). That an edge which ends
HOLDOVER sets the time spent in it to 0 and keeps the bad count is the model's reading [17]. -/
def Obligations.EdgesWithoutStep : Prop :=
  ∀ s : State, (s.resetAsserted = true → exec .ppsEdge s = .next s) ∧
    (s.resetAsserted = false →
      (s.tb.state = .free →
        exec .ppsEdge s = .next { s with
          tb := { s.tb.applyStaged with state := .acquiring, good := 0, prevCapture := some s.time, sinceCapture := 0 }
          causes := s.causes ||| EngineCause.tbState }) ∧
      (s.tb.state = .acquiring → s.tb.applyStaged.goodInterval = false →
        exec .ppsEdge s = .next { s with
          tb := { s.tb.applyStaged with good := 0, prevCapture := some s.time, sinceCapture := 0 } }) ∧
      (s.tb.state = .acquiring → s.tb.applyStaged.goodInterval = true → s.tb.good ≠ 1 →
        exec .ppsEdge s = .next { s with
          tb := { s.tb.applyStaged with good := s.tb.good + 1, prevCapture := some s.time, sinceCapture := 0 } }) ∧
      (s.tb.state = .locked →
        (s.tb.applyStaged.goodInterval = false ∨
          s.tb.applyStaged.inForce.stepLimit < (phaseError s.time.ns).natAbs) →
        (s.tb.bad ≠ 1 →
          exec .ppsEdge s = .next { s with
            tb := { s.tb.applyStaged with bad := s.tb.bad + 1, prevCapture := some s.time, sinceCapture := 0 } }) ∧
        (s.tb.bad = 1 →
          exec .ppsEdge s = .next { s with
            tb := { s.tb.applyStaged with
              state := .acquiring, good := 0, bad := 0, prevCapture := some s.time, sinceCapture := 0 }
            causes := s.causes ||| EngineCause.tbState })) ∧
      (s.tb.state = .holdover → 10000 < (phaseError s.time.ns).natAbs →
        exec .ppsEdge s = .next { s with
          tb := { s.tb.applyStaged with
            state := .acquiring, good := 0, inHoldover := 0, prevCapture := some s.time, sinceCapture := 0 }
          causes := s.causes ||| EngineCause.tbState }))

/-- R36, R38, R40, R43: the edges that step local time: the second good edge of ACQUIRING, a good edge of LOCKED, and an
edge of HOLDOVER within 10,000 ns. The armed value is used up, and the step goes to the step's target. R34: the settings
staged by name replace those in force, the others stay. That an edge which ends HOLDOVER sets the time spent in it to 0 and
leaves the good count as it was is the model's reading [17]. -/
def Obligations.EdgesThatStep : Prop :=
  ∀ s : State, s.resetAsserted = false →
    (s.tb.applyStaged =
      { s.tb with
        inForce :=
          { tolerance := s.tb.staged.tolerance.getD s.tb.inForce.tolerance
            stepLimit := s.tb.staged.stepLimit.getD s.tb.inForce.stepLimit
            holdoverLimit := s.tb.staged.holdoverLimit.getD s.tb.inForce.holdoverLimit }
        staged := { tolerance := none, stepLimit := none, holdoverLimit := none } }) ∧
    (s.tb.state = .acquiring → s.tb.applyStaged.goodInterval = true → s.tb.good = 1 →
      exec .ppsEdge s = .next (State.stepTime (s.tb.stepTarget s.time) { s with
        tb := { s.tb.applyStaged with
          state := .locked, good := 2, bad := 0, prevCapture := some s.time, sinceCapture := 0, armed := none }
        causes := s.causes ||| EngineCause.tbState })) ∧
    (s.tb.state = .locked → s.tb.applyStaged.goodInterval = true →
      (phaseError s.time.ns).natAbs ≤ s.tb.applyStaged.inForce.stepLimit →
      exec .ppsEdge s = .next (State.stepTime (s.tb.stepTarget s.time) { s with
        tb := { s.tb.applyStaged with bad := 0, prevCapture := some s.time, sinceCapture := 0, armed := none } })) ∧
    (s.tb.state = .holdover → (phaseError s.time.ns).natAbs ≤ 10000 →
      exec .ppsEdge s = .next (State.stepTime (s.tb.stepTarget s.time) { s with
        tb := { s.tb.applyStaged with
          state := .locked, bad := 0, inHoldover := 0, prevCapture := some s.time, sinceCapture := 0, armed := none }
        causes := s.causes ||| EngineCause.tbState }))

/-- R37, R39, R40: the three timeouts of the timebase: 3 s in ACQUIRING, 1.5 s in LOCKED, the holdover limit. R35:
entry to FREE clears the counts and the previous capture and keeps the armed value. That it sets the two measures of
elapsed time to 0, and that entry to HOLDOVER keeps the counts, is the model's reading [17]. -/
def Obligations.TimeoutsMoveTheTimebase : Prop :=
  ∀ s : State,
    (s.tb.state = .acquiring → 3000000000 ≤ s.tb.sinceCapture * 8 →
      exec .acquireTimeout s = .next { s with
        tb := { s.tb with
          state := .free, good := 0, bad := 0, prevCapture := none, sinceCapture := 0, inHoldover := 0 }
        causes := s.causes ||| EngineCause.tbState }) ∧
    (s.tb.state = .locked → 1500000000 ≤ s.tb.sinceCapture * 8 →
      exec .missingEdgeLimit s = .next { s with
        tb := { s.tb with state := .holdover, inHoldover := 0 }
        causes := s.causes ||| EngineCause.tbState }) ∧
    (s.tb.state = .holdover → s.tb.inForce.holdoverLimit * 1000000000 ≤ s.tb.inHoldover * 8 →
      exec .holdoverLimit s = .next { s with
        tb := { s.tb with
          state := .free, good := 0, bad := 0, prevCapture := none, sinceCapture := 0, inHoldover := 0 }
        causes := s.causes ||| EngineCause.tbState })

/-- R48, R49, R143: what a step of local time reaches. A step that is not forward changes local time alone. A forward
step makes every OPEN slot whose deadline it reaches DUE with DEADLINE; then, if it reaches the next epoch while RUNNING,
the epochs before the latest one reached are skipped and that one ticks (the order of the two is [9]). -/
def Obligations.StepsOfLocalTime : Prop :=
  ∀ (s : State) (t : LocalTime),
    (¬ s.time.before t → State.stepTime t s = { s with time := t }) ∧
    (s.time.before t →
      let expired := State.beginEmission { s with
        time := t
        window := s.window.map (fun sl =>
          if sl.status = .opened ∧ sl.deadline.atOrBefore t then { sl with status := .due .deadline } else sl) }
      ((s.run ≠ .running ∨ s.nextEpoch = none) → State.stepTime t s = expired) ∧
      (∀ e, s.run = .running → s.nextEpoch = some e →
        let last := latestEpoch s.settings.rout t
        (last.key s.settings.rout < e.key s.settings.rout → State.stepTime t s = expired) ∧
        (last.key s.settings.rout = e.key s.settings.rout →
          State.stepTime t s = State.tick last { expired with nextEpoch := last.succ s.settings.rout }) ∧
        (e.key s.settings.rout < last.key s.settings.rout →
          State.stepTime t s = State.tick last { expired with
            nextEpoch := last.succ s.settings.rout
            counters := { s.counters with
              skipped :=
                min (s.counters.skipped + (last.key s.settings.rout - e.key s.settings.rout)) 4294967295 }
            causes := expired.causes ||| EngineCause.epochSkipped })))

/-! ### Epochs -/

/-- R45, R46, R48: the latest epoch reached at a local time, and the first epoch strictly after it: no epoch lies
between them, and there is none after the last epoch of the seconds range. -/
def Obligations.EpochsAroundALocalTime : Prop :=
  ∀ (rout : Nat) (t : LocalTime), rout ∈ outputRates → t.valid →
    (∀ last, latestEpoch rout t = last →
      last.sec = t.sec ∧ last.k < rout ∧ (last.instant rout).atOrBefore t ∧
        ∀ e : Epoch, e.k < rout → (e.instant rout).atOrBefore t → e.key rout ≤ last.key rout) ∧
    (∀ e, firstEpochAfter rout t = some e →
      e.sec ≤ 4294967295 ∧ e.k < rout ∧ t.before (e.instant rout) ∧
        ∀ e' : Epoch, e'.k < rout → t.before (e'.instant rout) → e.key rout ≤ e'.key rout) ∧
    (firstEpochAfter rout t = none →
      ∀ e : Epoch, e.sec ≤ 4294967295 → e.k < rout → ¬ t.before (e.instant rout))

/-- R24, R47, R98 to R100, R113: a tick that finds room moves the next epoch on and opens the slot of its epoch, as
`State.opensSlot` spells out: the amendments are applied and silence is counted in every record, the records that fall SILENT
leave the expected sets, and then the slot opens with the records as they now stand (DUE with DEADLINE at once where its
deadline has passed, R143). -/
def Obligations.TickOpensASlot : Prop :=
  ∀ (s : State) (e : Epoch), s.run = .running → s.nextEpoch = some e →
    (e.instant s.settings.rout).atOrBefore s.time → s.window.length < 64 →
    ∃ t, exec .epochTick s = .next t ∧ State.opensSlot e { s with nextEpoch := e.succ s.settings.rout } t

/-- R24, R25, R98 to R100: what a tick does to one record, first the amendment and then the silence.
R113: the expected set of a slot opened for index k: the ACTIVE MEMBER records rate-expected there, each with its
stream ID, no index twice. -/
def Obligations.WhatATickDoesToRecords : Prop :=
  ((∀ r : Record, r.amend = none → r.settleAmendment = r) ∧
   (∀ (r : Record) (m : Amendment), r.amend = some m →
     (r.state = .free ∨ r.state = .retiring → r.settleAmendment = r) ∧
     (r.state ≠ .free → r.state ≠ .retiring → r.settleAmendment = { r with
       cls := m.cls.getD r.cls
       opts := { r.opts with
         rotate := m.rotate.getD r.opts.rotate, tau := m.tau.getD r.opts.tau, rho := m.rho.getD r.opts.rho
         filterN := m.filterN.getD r.opts.filterN, silenceLimit := m.silenceLimit.getD r.opts.silenceLimit
         qualityLimit := m.qualityLimit.getD r.opts.qualityLimit, watchMask := m.watchMask.getD r.opts.watchMask }
       filtered :=
         match m.filterN with
         | some n => filteredLatency n r.history
         | none => r.filtered
       amend := none })) ∧
   (∀ (r : Record) (rout k : Nat),
     ((r.state ≠ .active ∧ r.state ≠ .recovering) ∨ rateExpected r.rs rout k = false → r.countSilence rout k = r) ∧
     (r.state = .active → rateExpected r.rs rout k = true → r.silence + 1 < r.opts.silenceLimit →
       r.countSilence rout k = { r with silence := r.silence + 1 }) ∧
     (r.state = .active → rateExpected r.rs rout k = true → r.opts.silenceLimit ≤ r.silence + 1 →
       r.countSilence rout k =
         { r with silence := r.silence + 1, state := .silent, causes := r.causes ||| StreamCause.silent }) ∧
     (r.state = .recovering → rateExpected r.rs rout k = true → r.silence ≠ 1 →
       r.countSilence rout k = { r with silence := r.silence + 1 }) ∧
     (r.state = .recovering → rateExpected r.rs rout k = true → r.silence = 1 →
       r.countSilence rout k = { r with silence := 2, state := .silent, recovery := 0 }))) ∧
  (∀ (s : State) (k : Nat),
     ((s.expectedSet k).map (·.1)).Pairwise (· < ·) ∧
     ∀ i id, (i, id) ∈ s.expectedSet k ↔
       i < s.records.length ∧ (s.record i).state = .active ∧ (s.record i).cls = .member ∧
         rateExpected (s.record i).rs s.settings.rout k = true ∧ id = (s.record i).streamId)

/-- R112, R114: a tick at a full window. An OPEN oldest slot is forced out with WINDOW_FULL; where no emission can
begin the epoch is skipped, touching nothing else; where one can, the oldest slot is taken, as an emission that begins
takes it (R125, R144), and the epoch's slot opens as at a tick that finds room. -/
def Obligations.TickAtAFullWindow : Prop :=
  ∀ (s : State) (e : Epoch) (sl : Slot) (rest : List Slot), s.run = .running → s.nextEpoch = some e →
    (e.instant s.settings.rout).atOrBefore s.time → s.window = sl :: rest → s.window.length = 64 →
    (sl.status ≠ .opened → ¬ s.hasRoom →
      exec .epochTick s = .next { s with
        nextEpoch := e.succ s.settings.rout
        counters := { s.counters with skipped := min (s.counters.skipped + 1) 4294967295 }
        causes := s.causes ||| EngineCause.epochSkipped }) ∧
    (sl.status = .opened → ¬ s.hasRoom →
      exec .epochTick s = .next { s with
        nextEpoch := e.succ s.settings.rout
        window := { sl with status := .due .windowFull } :: rest
        counters := { s.counters with skipped := min (s.counters.skipped + 1) 4294967295 }
        causes := s.causes ||| EngineCause.windowFull ||| EngineCause.epochSkipped }) ∧
    (s.hasRoom → ∃ (oldest : Slot) (taken t : State),
      oldest = (if sl.status = .opened then { sl with status := .due .windowFull } else sl) ∧
      exec .emissionBegin { s with
        nextEpoch := e.succ s.settings.rout
        window := oldest :: rest
        causes := if sl.status = .opened then s.causes ||| EngineCause.windowFull else s.causes } = .next taken ∧
      taken.window = rest ∧ taken.emission = some oldest ∧
      exec .epochTick s = .next t ∧ State.opensSlot e taken t)

/-- R72 to R75: a stream of a compatible rate is rate-expected at exactly the indices its frames can reach, and a frame
that is not DECIMATED reaches the output point at its own grid point's instant.
R17: rates are compatible when the larger is a whole multiple of the smaller; the lists at 50 and at 60. -/
def Obligations.RatesAndTheirEpochs : Prop :=
  (∀ rs ∈ streamRates, ∀ rout ∈ outputRates, rateCompatible rs rout = true →
     (∀ k < rout, rateExpected rs rout k = true ↔ ∃ j < rs, outputIndex rs rout j = some k) ∧
     (∀ j < rs, ∀ k, outputIndex rs rout j = some k → k < rout ∧ k * rs = j * rout) ∧
     (∀ j < rs, rs ≤ rout → outputIndex rs rout j ≠ none)) ∧
  ((∀ rs rout : Nat, rateCompatible rs rout = true ↔ max rs rout % min rs rout = 0) ∧
   streamRates.filter (fun rs => rateCompatible rs 50) = [10, 25, 50, 100, 200] ∧
   streamRates.filter (fun rs => !rateCompatible rs 50) = [20, 30, 60, 120, 240] ∧
   streamRates.filter (fun rs => rateCompatible rs 60) = [10, 20, 30, 60, 120, 240] ∧
   (∀ rate : Nat, rateCompatible rate rate = true))

/-! ### Waits and deadlines -/

/-- R137: the wait cap at every output rate, and the bounds of every wait. -/
def Obligations.WaitCap : Prop :=
  (∀ rout : Nat, waitCap rout = 62000000 / rout) ∧
  outputRates.map waitCap = [6200000, 3100000, 2480000, 2066666, 1240000, 1033333, 620000, 516666] ∧
  (∀ s : State, s.waitNow ≤ waitCap s.settings.rout) ∧
  (∀ s : State, s.settings.valid → 516666 ≤ waitCap s.settings.rout ∧ 1000 ≤ s.waitNow)

/-- R140: the wait of a slot. FIXED takes Wfixed; ADAPTIVE takes the greatest F of the ACTIVE MEMBER records with its
margin, rounded up and held between Wmin and Wmax; both end at Wcap. -/
def Obligations.WaitOfASlot : Prop :=
  ∀ s : State,
    (s.settings.mode = .fixed → s.waitNow = min s.settings.wFixed (waitCap s.settings.rout)) ∧
    (s.settings.mode = .adaptive →
      (∀ r ∈ s.records, r.state = .active → r.cls = .member → r.filtered = none) →
      s.waitNow = min (max s.settings.wMin (min s.settings.wMin s.settings.wMax)) (waitCap s.settings.rout)) ∧
    (∀ crit raw : Nat, s.settings.mode = .adaptive →
      (∃ r ∈ s.records, r.state = .active ∧ r.cls = .member ∧ r.filtered = some crit) →
      (∀ r ∈ s.records, r.state = .active → r.cls = .member → ∀ l, r.filtered = some l → l ≤ crit) →
      crit * (128 + s.settings.margin) ≤ 128 * raw → 128 * raw < crit * (128 + s.settings.margin) + 128 →
      s.waitNow = min (max s.settings.wMin (min raw s.settings.wMax)) (waitCap s.settings.rout))

/-- R141: a deadline lies W × 1,000 ns after its epoch's instant, or at the end of the range. R142: a deadline that
local time has reached makes its OPEN slot, and no other slot, DUE with DEADLINE. -/
def Obligations.DeadlinesExpire : Prop :=
  (∀ (rout : Nat) (e : Epoch) (wait : Nat), rout ∈ outputRates → e.k < rout → e.sec ≤ 4294967295 →
    let ns := e.k * 1000000000 / rout + wait * 1000
    (e.sec + ns / 1000000000 ≤ 4294967295 →
      deadlineOf rout e wait = { sec := e.sec + ns / 1000000000, ns := ns % 1000000000 }) ∧
    (4294967295 < e.sec + ns / 1000000000 → deadlineOf rout e wait = { sec := 4294967295, ns := 999999992 })) ∧
  (∀ (s : State) (e : Epoch) (sl : Slot), sl ∈ s.window → sl.epoch = e → sl.status = .opened →
    sl.deadline.atOrBefore s.time →
    exec (.deadlineExpiry e) s = .next (State.beginEmission { s with
      window := s.window.map (fun sl =>
        if sl.epoch = e ∧ sl.status = .opened ∧ sl.deadline.atOrBefore s.time then
          { sl with status := .due .deadline }
        else sl) }))

/-! ### Intake -/

/-- R50 to R53: a frame offered joins the FIFO with its first 78 bytes, its whole length and local time; at a full FIFO
it is DROPPED. Nothing is taken in while the reset input is asserted.
R54, R55: intake takes the oldest frame out of the FIFO, at once, whenever it handles none and no edit is in flight, and
otherwise takes nothing. A frame is handled that has been taken, or is then the oldest. -/
def Obligations.FramesJoinAreDroppedAndTaken : Prop :=
  (∀ (bytes : List Byte) (s : State),
    (s.resetAsserted = true → exec (.frameOffered bytes) s = .next s) ∧
    (s.resetAsserted = false → s.fifo.length < 256 →
      exec (.frameOffered bytes) s = .next (State.takeFrame { s with
        fifo := s.fifo ++ [{ bytes := bytes.take 78, length := bytes.length, arrival := s.time }] })) ∧
    (s.resetAsserted = false → 256 ≤ s.fifo.length →
      exec (.frameOffered bytes) s = .next { s with
        counters := { s.counters with dropped := min (s.counters.dropped + 1) 4294967295 }
        causes := s.causes ||| EngineCause.ingressDrop })) ∧
  (∀ s : State,
    (∀ f rest, s.fifo = f :: rest → s.handling = none → s.editInFlight = false →
      s.takeFrame = { s with handling := some f, fifo := rest }) ∧
    ((s.fifo = [] ∨ s.handling ≠ none ∨ s.editInFlight = true) → s.takeFrame = s) ∧
    (s.editInFlight = true ↔ ∃ kind tag edit, s.port = .editing kind tag edit) ∧
    exec .frameHandling s = exec .frameHandling s.takeFrame)

/-- R191: every field of an ingress frame is read at the offset it was laid out at, with every value it admits. -/
def Obligations.FrameLayoutReadsBack : Prop :=
  ∀ (id soc quality frac length : Nat) (flags : BitVec 16) (m : Measured) (arrival : LocalTime) (f : QueuedFrame),
    id < 4294967296 → soc < 4294967296 → quality < 256 → frac < 16777216 → m.phasors.length ≤ 12 →
    m.analogs.length ≤ 4 → 4 ≤ length →
    f = { bytes := frameBytes id soc quality frac flags m, length, arrival } →
    (frameBytes id soc quality frac flags m).length = 22 + 4 * m.phasors.length + 2 * m.analogs.length ∧
    f.streamId = id ∧ f.soc = soc ∧ f.quality = quality % 16 ∧ f.frac = frac ∧ f.flags = flags ∧
    f.p = m.phasors.length ∧ f.a = m.analogs.length ∧ f.measured m.phasors.length m.analogs.length = m

/-- R54: the handling of a frame ends with its disposition and effects, and intake takes the next.
R51, R57: a taken frame whose ID the directory does not hold is UNKNOWN and touches no record; a frame shorter than
4 bytes has ID 0.
R62, R64, R77: a REFUSED, SHAPE, IDLE, DECIMATED, AHEAD or DUPLICATE frame moves its record's counter of that name
and nothing else; a MISALIGNED frame also raises MISALIGN. Each counter saturates (R4). -/
def Obligations.FramesThatAreOnlyCounted : Prop :=
  ((∀ f : QueuedFrame, f.length < 4 → f.streamId = 0) ∧
   (∀ (f : QueuedFrame) (s : State), s.handling = some f → ¬ s.knows f.streamId →
     exec .frameHandling s = .next (State.takeFrame { s with
       handling := none
       counters := { s.counters with unknown := min (s.counters.unknown + 1) 4294967295 }
       causes := s.causes ||| EngineCause.unknownId }))) ∧
  ((∀ c : RecordCounters,
     c.bump .placed = { c with placed := min (c.placed + 1) 4294967295 } ∧
     c.bump .late = { c with late := min (c.late + 1) 4294967295 } ∧
     c.bump .duplicate = { c with duplicate := min (c.duplicate + 1) 4294967295 } ∧
     c.bump .decimated = { c with decimated := min (c.decimated + 1) 4294967295 } ∧
     c.bump .misaligned = { c with misaligned := min (c.misaligned + 1) 4294967295 } ∧
     c.bump .ahead = { c with ahead := min (c.ahead + 1) 4294967295 } ∧
     c.bump .shape = { c with shape := min (c.shape + 1) 4294967295 } ∧
     c.bump .refused = { c with refused := min (c.refused + 1) 4294967295 } ∧
     c.bump .idle = { c with idle := min (c.idle + 1) 4294967295 }) ∧
   (∀ (f : QueuedFrame) (s : State) (i : Nat), s.handling = some f →
     (∀ dc ∈ [(Disposition.refused i, RecCounter.refused), (.shape i, .shape), (.idle i, .idle),
         (.decimated i, .decimated), (.ahead i, .ahead), (.duplicate i, .duplicate)],
       s.dispose f = dc.1 →
       exec .frameHandling s = .next (State.takeFrame { s with
         handling := none
         records := s.records.set i { s.record i with counters := (s.record i).counters.bump dc.2 } })) ∧
     (s.dispose f = .misaligned i →
       exec .frameHandling s = .next (State.takeFrame { s with
         handling := none
         records := s.records.set i { s.record i with
           counters := (s.record i).counters.bump .misaligned
           causes := (s.record i).causes ||| StreamCause.misalign } }))))

/-- R58 to R61: the order of the checks on a frame of record i: REFUSED, SHAPE, IDLE, then the arithmetic and the
window.
R66, R72, R77, R78, R86: the arithmetic's answer: DECIMATED where the grid index has no output epoch, then MISALIGNED where
the residual is neither snapped nor rotated, else the frame's epoch, alignment flag, residual, latency, flags, quality code
and data.
R116: the window's answer to a frame of epoch key E: AHEAD beyond the run's newest epoch, DUPLICATE or PLACED at an
OPEN slot of E, else LATE. -/
def Obligations.DispositionOfAFrame : Prop :=
  (∀ (f : QueuedFrame) (s : State) (i : Nat), s.lookup f.streamId = some i →
     ((s.record i).state = .suspended → s.dispose f = .refused i) ∧
     ((s.record i).state ≠ .suspended →
       (f.length ≠ 22 + 4 * (s.record i).p + 2 * (s.record i).a ∨ f.p ≠ (s.record i).p ∨ f.a ≠ (s.record i).a ∨
         (s.record i).tb ≤ f.frac) → s.dispose f = .shape i) ∧
     ((s.record i).state ≠ .suspended → f.length = 22 + 4 * (s.record i).p + 2 * (s.record i).a →
       f.p = (s.record i).p → f.a = (s.record i).a → f.frac < (s.record i).tb →
       (s.run = .stopped → s.dispose f = .idle i) ∧
       (s.run ≠ .stopped →
         (align s.settings (s.record i) f = .decimated → s.dispose f = .decimated i) ∧
         (align s.settings (s.record i) f = .misaligned → s.dispose f = .misaligned i) ∧
         (∀ al, align s.settings (s.record i) f = .aligned al → s.dispose f = s.windowDecision i al)))) ∧
  (∀ (g : AlignSettings) (r : Record) (f : QueuedFrame) (out : Option Nat) (delta : Int),
     out = outputIndex r.rs g.rout (wrappedIndex f.frac r.rs r.tb) → delta = residualNs f.frac r.rs r.tb →
     (out = none → align g r f = .decimated) ∧
     (∀ k, out = some k →
       (alignFlag r.opts delta = none → align g r f = .misaligned) ∧
       (∀ flag, alignFlag r.opts delta = some flag → align g r f = .aligned
         { epoch := { sec := epochSecond f.soc f.frac r.rs r.tb, k }
           flag
           residual := delta
           latency := latencyUs f.soc f.frac r.tb f.arrival
           flags := f.flags
           quality := f.quality
           data := alignedData g.f0 flag delta f.flags (f.measured r.p r.a) }))) ∧
  (∀ (s : State) (i : Nat) (al : Aligned),
     ((∀ n, s.newest = some n → n.epoch.key s.settings.rout < al.epoch.key s.settings.rout) →
       s.windowDecision i al = .ahead i) ∧
     (∀ n, s.newest = some n → al.epoch.key s.settings.rout ≤ n.epoch.key s.settings.rout →
       ((∀ sl ∈ s.window, sl.epoch.key s.settings.rout = al.epoch.key s.settings.rout → sl.status ≠ .opened) →
         s.windowDecision i al = .late i al) ∧
       (∀ sl, s.InOrder → sl ∈ s.window → sl.epoch.key s.settings.rout = al.epoch.key s.settings.rout →
         sl.status = .opened →
         (sl.hasEntry i = true → s.windowDecision i al = .duplicate i) ∧
         (sl.hasEntry i = false → s.windowDecision i al = .placed i al))))

/-- R63, R117, R119, R121: a LATE frame teaches its record and touches nothing else; a PLACED frame teaches its record,
adds 1 to its held count, and joins the OPEN slot of its epoch as an entry, EXTRA if not expected and SUSPECT by the
record's clock state after the observation (R95); a slot that is then complete is DUE with COMPLETE. -/
def Obligations.LateAndPlacedFrames : Prop :=
  (∀ (e : Entry) (es : List Entry), (insertEntry e es).Perm (e :: es)) ∧
  ∀ (f : QueuedFrame) (s : State) (i : Nat) (al : Aligned), s.handling = some f →
    (s.dispose f = .late i al →
      exec .frameHandling s = .next (State.takeFrame { s with
        handling := none, records := s.records.set i ((s.record i).teach al true) })) ∧
    (∀ r, s.dispose f = .placed i al → r = (s.record i).teach al false →
      exec .frameHandling s = .next (State.takeFrame (State.beginEmission { s with
        handling := none
        records := s.records.set i { r with held := r.held + 1 }
        window := s.window.map (fun sl =>
          if sl.epoch.key s.settings.rout = al.epoch.key s.settings.rout ∧ sl.status = .opened then
            let filled := { sl with entries := (insertEntry
              { index := i, streamId := r.streamId, align := al.flag, suspect := r.clock == .unlocked,
                extra := !sl.expects i, flags := al.flags, residual := al.residual, latency := al.latency,
                data := al.data } sl.entries) }
            if filled.isComplete = true then { filled with status := .due .complete } else filled
          else sl) })))

/-- R19, R63, R88 to R101: all that a LATE or PLACED frame does to its record. -/
def Obligations.WhatAFrameTeaches : Prop :=
  ∀ (r : Record) (al : Aligned) (late : Bool), r.history.length ≤ 8 →
    ∃ (seen : ClockState) (history : List Nat),
      (seen = .unlocked ↔ syncLost al.flags = true ∨ r.opts.qualityLimit < al.quality) ∧
      history = (r.history ++ [al.latency]).drop (r.history.length + 1 - 8) ∧
      r.teach al late = { r with
        state :=
          if r.state = .pending then .active else if r.state = .silent then .recovering
          else if r.state = .recovering then .active else r.state
        counters := r.counters.bump (if late then .late else .placed)
        history
        filtered := filteredLatency r.opts.filterN history
        clock := if seen ≠ r.clock ∧ r.disagree ≠ 0 then seen else r.clock
        disagree := if seen ≠ r.clock ∧ r.disagree = 0 then 1 else 0
        silence := 0
        recovery := if r.state = .silent then 1 else if r.state = .recovering then 0 else r.recovery
        causes := r.causes
          ||| (if seen ≠ r.clock ∧ r.disagree ≠ 0 then StreamCause.clock else 0)
          ||| (if r.state = .recovering then StreamCause.recovered else 0)
          ||| (if al.flags &&& r.opts.watchMask ≠ 0 then StreamCause.watch else 0)
          ||| (if late then StreamCause.late else 0) }

/-- R91: F is the rounded-down mean of the newest min(N, c) values of the history, and lies between its least and its
greatest; with an empty history it is absent. -/
def Obligations.FilteredLatencyIsAMean : Prop :=
  (∀ n, filteredLatency n [] = none) ∧
  (∀ (n : Nat) (h : List Nat), n ∈ [1, 2, 4, 8] → h ≠ [] →
    filteredLatency n h = some ((h.reverse.take n).sum / min n h.length) ∧
    ∃ f, filteredLatency n h = some f ∧ (∃ lo ∈ h, lo ≤ f) ∧ (∃ hi ∈ h, f ≤ hi))

/-! ### The alignment arithmetic -/

/-- R68 to R70: the grid index is the nearest grid point, halfway going up; the residual is what is left; the last half
interval of a second wraps to the next second's first point.
R71 and the rounding convention of the opening file: a rounded quotient is the nearest integer, a half going away
from zero; δns is the residual so rounded, no greater than half the grid interval. -/
def Obligations.GridIndexAndResidual : Prop :=
  (∀ (soc frac rs tb : Nat), rs ∈ streamRates → frac < tb →
     (∀ j, gridIndex frac rs tb = j →
       2 * j * tb ≤ 2 * frac * rs + tb ∧ 2 * frac * rs + tb < 2 * (j + 1) * tb ∧ j ≤ rs ∧
       residualUnits frac rs tb = (frac * rs : Int) - j * tb ∧
       (j < rs → epochSecond soc frac rs tb = soc ∧ wrappedIndex frac rs tb = j) ∧
       (j = rs → wrappedIndex frac rs tb = 0 ∧
         (soc < 4294967295 → epochSecond soc frac rs tb = soc + 1) ∧
         (soc = 4294967295 → epochSecond soc frac rs tb = 0))) ∧
     -(tb : Int) ≤ 2 * residualUnits frac rs tb ∧ 2 * residualUnits frac rs tb < tb) ∧
  ((∀ (num : Int) (den : Nat), 0 < den →
     let q := roundHalfAway num den
     2 * (num - q * den).natAbs ≤ den ∧ (2 * (num - q * den).natAbs = den → num.natAbs < (q * den).natAbs)) ∧
   (∀ (frac rs tb : Nat), rs ∈ streamRates → frac < tb →
     residualNs frac rs tb = roundHalfAway (residualUnits frac rs tb * 1000000000) (tb * rs) ∧
     ((residualNs frac rs tb).natAbs : Int) ≤ roundHalfAway 1000000000 (2 * rs)))

/-- R76: snap within τ, rotate within ρ when rotate is on, else MISALIGNED.
R79 to R82: the angle correction of a ROTATED frame, with its clamp and its bound; every angle turns by it modulo
65,536, and nothing else in the data changes; a SNAPPED frame's data is as the frame carried it. -/
def Obligations.SnapRotateOrMisalign : Prop :=
  (∀ (o : Options) (delta : Int),
     (delta.natAbs ≤ o.tau * 1000 → alignFlag o delta = some .snapped) ∧
     (o.tau * 1000 < delta.natAbs → o.rotate = true → delta.natAbs ≤ o.rho * 1000 →
       alignFlag o delta = some .rotated) ∧
     (o.tau * 1000 < delta.natAbs → (o.rotate = false ∨ o.rho * 1000 < delta.natAbs) → alignFlag o delta = none) ∧
     (o.rho ≤ o.tau → alignFlag o delta ≠ some .rotated)) ∧
  ((∀ (f0 : Nat) (delta : Int) (flags dev : BitVec 16) (used : Int),
     (freqInvalid flags = true → used = 0) →
     (freqInvalid flags = false → dev.toInt < -5000 → used = -5000) →
     (freqInvalid flags = false → 5000 < dev.toInt → used = 5000) →
     (freqInvalid flags = false → -5000 ≤ dev.toInt → dev.toInt ≤ 5000 → used = dev.toInt) →
     angleCorrection f0 delta flags dev = roundHalfAway (-delta * (f0 * 1000 + used) * 65536) 1000000000000) ∧
   (∀ (f0 : Nat) (delta : Int) (flags dev : BitVec 16), f0 = 50 ∨ f0 = 60 → delta.natAbs ≤ 10000000 →
     (angleCorrection f0 delta flags dev).natAbs ≤ 42598) ∧
   (∀ (f0 : Nat) (delta : Int) (flags : BitVec 16) (m : Measured), alignedData f0 .snapped delta flags m = m) ∧
   (∀ (f0 : Nat) (delta : Int) (flags : BitVec 16) (m t : Measured), alignedData f0 .rotated delta flags m = t →
     t = { m with phasors := t.phasors } ∧ t.phasors.map (·.magnitude) = m.phasors.map (·.magnitude) ∧
     t.phasors.map (fun ph => (ph.angle.toNat : Int)) =
       m.phasors.map (fun ph => ((ph.angle.toNat : Int) + angleCorrection f0 delta flags m.freqDev) % 65536)))

/-- R83, R84: the latency of a frame stamped (SOC, FRAC) that arrived at A. -/
def Obligations.LatencyOfAFrame : Prop :=
  ∀ (soc frac tb : Nat) (arrival : LocalTime) (ns : Int),
    ns = ((arrival.sec : Int) - soc) * 1000000000 + arrival.ns - (frac * 1000000000 / tb : Nat) →
    (ns < 0 → latencyUs soc frac tb arrival = 0) ∧
    (0 ≤ ns → ns / 1000 ≤ 16777215 → (latencyUs soc frac tb arrival : Int) = ns / 1000) ∧
    (16777215 < ns / 1000 → latencyUs soc frac tb arrival = 16777215) ∧
    latencyUs soc frac tb arrival ≤ 16777215

/-! ### Directory edits -/

/-- R10, R18: the completion of an insertion edit: the pair stands in the directory, the record takes its fields and
starting values and is PENDING, and the answer is DONE with its index.
R20, R29: the completion of a removal edit: the pair is gone, an ACTIVE record leaves the expected sets, and the
record is FREE (answer DONE) or, with entries in the window, RETIRING (answer DEFERRED).
R11, R12, R55: an edit completes when no frame is being handled, and intake then takes the oldest frame. -/
def Obligations.DirectoryEditsComplete : Prop :=
  (∀ (s : State) (kind tag : Byte) (i : Nat) (g : Registration), s.port = .editing kind tag (.insertion i g) →
     s.handling = none →
     ∃ directory, directory.Perm ((g.streamId, i) :: s.directory) ∧
       ((s.directory.map (·.1)).Pairwise (· < ·) → (∀ p ∈ s.directory, p.1 ≠ g.streamId) →
         (directory.map (·.1)).Pairwise (· < ·)) ∧
       exec .insertionEditCompletion s = .next (State.takeFrame { s with
         directory
         records := s.records.set i
           { state := .pending, streamId := g.streamId, cls := g.cls, rs := g.rs, tb := g.tb, p := g.p, a := g.a,
             opts := g.opts, amend := none, history := [], filtered := none, clock := .locked, disagree := 0,
             silence := 0, recovery := 0, held := 0, causes := 0, counters := RecordCounters.zero }
         port := .answering { kind, tag, status := .done, ret := .index i } })) ∧
  (∀ (s : State) (kind tag : Byte) (id i : Nat), s.port = .editing kind tag (.removal id i) → s.handling = none →
     exec .removalEditCompletion s = .next (State.takeFrame (State.beginEmission { s with
       directory := s.directory.filter (fun p => p.1 != id)
       window := if (s.record i).state = .active then s.window.map (Slot.dropExpected i) else s.window
       records := s.records.set i
         (if (s.record i).held = 0 then Record.vacant
          else { s.record i with state := .retiring, recovery := 0, amend := none })
       port := .answering
         { kind, tag, status := if (s.record i).held = 0 then .done else .deferred, ret := .none } })))

/-! ### Egress -/

/-- R30, R125, R126, R144: when the oldest slot is DUE, no emission is in flight and the buffer holds 3 sets or fewer,
the slot leaves the window into its emission, the held counts of the records in it fall, and a RETIRING record whose
count falls to 0 is FREE. Otherwise nothing begins. -/
def Obligations.EmissionBegins : Prop :=
  ∀ s : State,
    (∀ sl rest, s.window = sl :: rest → sl.status ≠ .opened → s.hasRoom →
      ∃ records, exec .emissionBegin s = .next { s with window := rest, emission := some sl, records } ∧
        records.length = s.records.length ∧
        ∀ i < s.records.length, records.getD i Record.vacant =
          if sl.hasEntry i = true then
            if (s.record i).state = .retiring ∧ (s.record i).held ≤ 1 then Record.vacant
            else { s.record i with held := (s.record i).held - 1 }
          else s.record i) ∧
    ((s.window = [] ∨ (∃ sl rest, s.window = sl :: rest ∧ sl.status = .opened) ∨ ¬ s.hasRoom) →
      exec .emissionBegin s = .next s)

/-- R134, R145, R148, R152: the completion of an emission places the slot's set in the buffer and counts it by its
release cause; then the next emission and the next transmission may begin, and a drain ends when nothing is left of it. -/
def Obligations.EmissionCompletes : Prop :=
  ∀ (s : State) (sl : Slot) (cause : ReleaseCause), s.emission = some sl → sl.status = .due cause →
    (∃ counters, exec .emissionCompletion s = .next (State.endDrain (State.beginTransmission (State.beginEmission
        { s with emission := none, egress := s.egress ++ [buildSet s.settings.rout sl], counters }))) ∧
      counters = { s.counters with
        sets := min (s.counters.sets + 1) 4294967295
        complete := if cause = .complete then min (s.counters.complete + 1) 4294967295 else s.counters.complete
        deadline := if cause = .deadline then min (s.counters.deadline + 1) 4294967295 else s.counters.deadline
        windowFull :=
          if cause = .windowFull then min (s.counters.windowFull + 1) 4294967295 else s.counters.windowFull
        flush := if cause = .flush then min (s.counters.flush + 1) 4294967295 else s.counters.flush }) ∧
    (s.run = .draining → s.window = [] →
      ∃ t, exec .emissionCompletion s = .next t ∧ t.run = .stopped ∧ t.emission = none ∧
        t.causes = s.causes ||| EngineCause.drained) ∧
    (s.run ≠ .draining ∨ s.window ≠ [] →
      ∃ t, exec .emissionCompletion s = .next t ∧ t.run = s.run ∧ t.causes = s.causes)

/-- R157 to R160: the set built from a sound slot: its header is the slot's, its entries are the slot's and an ABSENT
one for each expected index without an entry, and its counts agree. -/
def Obligations.SetsAgreeWithTheirSlots : Prop :=
  ∀ (rout : Nat) (sl : Slot) (cause : ReleaseCause), sl.sound rout → sl.status = .due cause →
    ∀ a, buildSet rout sl = a →
      a.header.epoch = sl.epoch ∧ a.header.rout = rout ∧ a.header.cause = cause ∧ a.header.tbState = sl.tbState ∧
      a.header.wait = sl.wait ∧ a.header.expectedCount = sl.expected.length ∧ a.agrees ∧
      (∀ e, .present e ∈ a.entries ↔ e ∈ sl.entries) ∧
      (∀ i id, .absent i id ∈ a.entries ↔ (i, id) ∈ sl.expected ∧ sl.hasEntry i = false)

/-- R152, R153: a transmission begins when the buffer holds a set, none is in flight and ready is asserted, and not
otherwise; its completion frees the oldest place, after which an emission and a transmission may begin; ready withdrawn
pauses it. -/
def Obligations.TransmissionFollowsReady : Prop :=
  ∀ s : State,
    (s.egress ≠ [] → s.transmitting = false → s.ready = true →
      exec .transmissionBegin s = .next { s with transmitting := true }) ∧
    ((s.egress = [] ∨ s.transmitting = true ∨ s.ready = false) → exec .transmissionBegin s = .next s) ∧
    (s.transmitting = true → s.ready = true →
      exec .transmissionCompletion s = .next (State.beginTransmission (State.beginEmission
        { s with egress := s.egress.tail, transmitting := false }))) ∧
    (s.egress ≠ [] → exec .readyAssert s = .next { s with ready := true, transmitting := true }) ∧
    (s.egress = [] → exec .readyAssert s = .next { s with ready := true }) ∧
    exec .readyWithdraw s = .next { s with ready := false }

/-! ### The management link -/

/-- R162, R163, R167, R193: the part takes the bytes of the management link one by one. It accepts a byte while the reset
input is released and a message is in reception or the queue holds fewer than 8; a byte it does not accept changes nothing
[11]. A message is received with its last byte, counted by the length byte of its header alone, and joins the queue with its
kind, tag, declared length and first 32 body bytes; so does a whole message that arrives at one time.
R164: at a reception, and at the end of an answer, an idle port starts the command of the oldest message in the same event. -/
def Obligations.MessagesJoinAndAnswersEnd : Prop :=
  ∀ s : State,
    (s.mgmtReady = true ↔ s.resetAsserted = false ∧ (s.reception ≠ [] ∨ s.queue.length < 8)) ∧
    exec (.managementBytes []) s = .next s ∧
    (∀ b bytes t, exec (.managementBytes [b]) s = .next t →
      exec (.managementBytes (b :: bytes)) s = exec (.managementBytes bytes) t) ∧
    (∀ b, s.mgmtReady = false → exec (.managementBytes [b]) s = .next s) ∧
    (∀ b, s.mgmtReady = true → s.reception.length < 2 →
      exec (.managementBytes [b]) s = .next { s with reception := s.reception ++ [b] }) ∧
    (∀ b kind tag len body, s.mgmtReady = true → s.reception ++ [b] = kind :: tag :: len :: body →
      (body.length < len.toNat →
        exec (.managementBytes [b]) s = .next { s with reception := s.reception ++ [b] }) ∧
      (∀ u, body.length = len.toNat →
        u = { s with
          reception := [], queue := s.queue ++ [{ kind, tag, len := len.toNat, body := body.take 32 }] } →
        (s.port ≠ .idle → exec (.managementBytes [b]) s = .next u) ∧
        (∀ m rest, u.offers m rest → exec (.managementBytes [b]) s = exec m.command u))) ∧
    (∀ kind tag body u, s.resetAsserted = false → s.reception = [] → s.queue.length < 8 → body.length ≤ 255 →
      u = { s with queue := s.queue ++ [{ kind, tag, len := body.length, body := body.take 32 }] } →
      (s.port ≠ .idle → exec (.messageReceived kind tag body) s = .next u) ∧
      (∀ m rest, u.offers m rest → exec (.messageReceived kind tag body) s = exec m.command u)) ∧
    (∀ a u, s.port = .answering a → u = { s with port := .idle } →
      (s.queue = [] → exec .answerSent s = .next u) ∧
      (∀ m rest, u.offers m rest → exec .answerSent s = exec m.command u))

/-- R164, R165: while a command is in progress, or no message waits, no command starts. A started command's message
leaves the queue, and it gets one answer with its kind and tag, or, for an accepted REGISTER STREAM or RETIRE STREAM, an
edit; only DONE, and RATE of CONFIGURE ALIGNMENT, carry return fields. A row that is not the one of the oldest message
does nothing [1]; a STOP that is neither a right STOP DRAIN nor a right STOP FLUSH belongs to both rows [15]. -/
def Obligations.OneCommandAtATime : Prop :=
  (∀ c ∈ managementCommands, ∀ s : State, s.port ≠ .idle ∨ s.queue = [] → exec c s = .next s) ∧
  (∀ (s : State) (m : Message) (rest : List Message), s.offers m rest →
    ∃ t, exec m.command s = .next t ∧ t.queue = rest ∧
      ((∃ a, t.port = .answering a ∧ a.kind = m.kind ∧ a.tag = m.tag ∧
          (a.status = .done ∨ a.ret = .none ∨
            (a.status = .rate ∧ m.kind.toNat = 2 ∧ ∃ i, a.ret = .index i))) ∨
        (∃ edit, t.port = .editing m.kind m.tag edit ∧ (m.kind.toNat = 16 ∨ m.kind.toNat = 21)))) ∧
  (∀ c ∈ managementCommands, ∀ (s : State) (m : Message) (rest : List Message), s.offers m rest →
    c ≠ m.command → ¬ (c = .stopFlush ∧ m.kind.toNat = 7) → exec c s = .next s) ∧
  (∀ (s : State) (m : Message) (rest : List Message), s.offers m rest → m.kind.toNat = 7 →
    (m.len = 1 → fieldAt m.body 0 1 = 0 → exec .stopFlush s = .next s) ∧
    ((m.len ≠ 1 ∨ 1 < fieldAt m.body 0 1) → exec .stopFlush s = exec .stopDrain s))

/-- R166: a refused command changes nothing but the queue it left and the answer on the link. -/
def Obligations.RefusedCommandsChangeNothing : Prop :=
  ∀ c ∈ managementCommands, ∀ (s t : State) (m : Message) (rest : List Message) (a : Answer), s.offers m rest →
    exec c s = .next t → t.port = .answering a → a.status ≠ .done → a.status ≠ .deferred →
    t = { s with queue := rest, port := .answering a }

/-- R166, R168 to R179: the form checks. An unknown kind, a body of the wrong length, a malformed item list, an empty
list where one is needed, and a body of more than 32 bytes are answered MALFORMED. (The STOP rows are both taken [15].) -/
def Obligations.MalformedForms : Prop :=
  ∀ (s : State) (m : Message) (rest : List Message), s.offers m rest →
    ((m.kind.toNat = 0 ∨ (11 ≤ m.kind.toNat ∧ m.kind.toNat ≤ 15) ∨ 26 ≤ m.kind.toNat) →
      exec .malformed s = .next (s.replied m rest .malformed .none)) ∧
    (∀ row ∈ fixedLengths, m.kind.toNat = row.2.1 → m.len ≠ row.2.2 →
      exec row.1 s = .next (s.replied m rest .malformed .none)) ∧
    (m.kind.toNat = 2 → (m.items 0 16 22 = none ∨ m.items 0 16 22 = some []) →
      exec .configureAlignment s = .next (s.replied m rest .malformed .none)) ∧
    (m.kind.toNat = 3 → (m.items 0 24 26 = none ∨ m.items 0 24 26 = some []) →
      exec .configureTimebase s = .next (s.replied m rest .malformed .none)) ∧
    (m.kind.toNat = 16 → m.items 11 2 9 = none →
      exec .registerStream s = .next (s.replied m rest .malformed .none)) ∧
    (m.kind.toNat = 17 → m.items 4 1 9 = none →
      exec .amendStream s = .next (s.replied m rest .malformed .none)) ∧
    (∀ fixed lo hi, 32 < m.len ∨ m.len < fixed → m.items fixed lo hi = none)

/-- Section 9.4's table: the size of each code's value, and its range.
R168: a list is read as the items it was written from, with every value they admit, and is malformed in every other
case: each code is in the table and allowed, no code stands twice, and the body ends at the end of an item. The order of
the items has no effect. A command's list is what follows its fixed part, in a body of at most the 32 bytes kept. -/
def Obligations.ItemListsReadBack : Prop :=
  ((∀ code size : Nat, itemSize code = some size ↔ (code, size) ∈
      [(1, 1), (2, 1), (3, 2), (4, 2), (5, 1), (6, 1), (7, 1), (8, 2), (9, 1), (10, 1), (11, 3), (12, 1), (13, 1),
        (16, 1), (17, 1), (18, 1), (19, 4), (20, 4), (21, 4), (22, 1), (24, 4), (25, 4), (26, 2)]) ∧
   (∀ row ∈ [(1, 0, 1), (2, 0, 1), (3, 0, 5000), (4, 0, 10000), (6, 2, 255), (7, 0, 15), (8, 0, 65535), (9, 0, 63),
        (18, 0, 1), (19, 1000, 10000000), (20, 1000, 10000000), (21, 1000, 10000000), (22, 0, 127),
        (24, 100, 100000), (25, 100, 100000), (26, 1, 3600)],
      ∀ v : Nat, itemInRange (row.1, v) = true ↔ row.2.1 ≤ v ∧ v ≤ row.2.2) ∧
   (∀ v : Nat, itemInRange (5, v) = true ↔ v ∈ [1, 2, 4, 8]) ∧
   (∀ v : Nat, itemInRange (16, v) = true ↔ v ∈ [10, 20, 25, 30, 50, 60, 100, 120]) ∧
   (∀ v : Nat, itemInRange (17, v) = true ↔ v ∈ [50, 60])) ∧
  (∀ (lo hi : Nat) (bytes : List Byte) (items : List Item), parseItems lo hi bytes = some items ↔
    bytes = items.flatMap (fun item => Item.wire ((itemSize item.1).getD 0) item) ∧ (items.map (·.1)).Nodup ∧
    ∀ item ∈ items, lo ≤ item.1 ∧ item.1 ≤ hi ∧ ∃ size, itemSize item.1 = some size ∧ item.2 < 256 ^ size) ∧
  (∀ (code : Nat) (items items' : List Item), items.Perm items' → (items.map (·.1)).Nodup →
    itemValue code items = itemValue code items') ∧
  (∀ (code : Nat) (items : List Item), (∀ v, itemValue code items = some v → (code, v) ∈ items) ∧
    (itemValue code items = none → ∀ item ∈ items, item.1 ≠ code)) ∧
  (∀ (m : Message) (fixed lo hi : Nat), fixed ≤ m.len → m.len ≤ 32 →
    m.items fixed lo hi = parseItems lo hi (m.body.drop fixed))

/-! ### Engine commands -/

/-- R156, R169, R149: READ ENGINE answers with the figures as they stand, and clears the counters after reading if
asked. -/
def Obligations.ReadEngineReports : Prop :=
  ∀ (s : State) (m : Message) (rest : List Message) (r : EngineReport), s.offers m rest → m.kind.toNat = 1 →
    m.len = 1 →
    r = { run := s.run, tbState := s.tb.state
          openSlots := (s.window.filter (fun sl => sl.status = .opened)).length
          dueSlots := (s.window.filter (fun sl => sl.status ≠ .opened)).length
          occupancy := s.egress.length
          freeRecords := (s.records.filter (fun r => r.state = .free)).length
          newestWait := s.newest.map (·.wait)
          settings := s.settings, tbSettings := s.tb.inForce, mask := s.mask, counters := s.counters } →
    (fieldAt m.body 0 1 = 0 → exec .readEngine s = .next (s.replied m rest .done (.engine r))) ∧
    (fieldAt m.body 0 1 = 1 → exec .readEngine s =
      .next (State.replied m rest .done (.engine r) { s with counters := EngineCounters.zero })) ∧
    (1 < fieldAt m.body 0 1 → exec .readEngine s = .next (s.replied m rest .range .none))

/-- R138, R170: CONFIGURE ALIGNMENT's checks in order, the lowest offending record of a RATE, and the settings
written. -/
def Obligations.ConfigureAlignmentChecksInOrder : Prop :=
  ∀ (s : State) (m : Message) (rest : List Message) (items : List Item) (g : AlignSettings), s.offers m rest →
    m.kind.toNat = 2 → m.items 0 16 22 = some items → items ≠ [] →
    g = { rout := (itemValue 16 items).getD s.settings.rout, f0 := (itemValue 17 items).getD s.settings.f0
          mode :=
            if itemValue 18 items = some 0 then .fixed else if itemValue 18 items = none then s.settings.mode
            else .adaptive
          wFixed := (itemValue 19 items).getD s.settings.wFixed, wMin := (itemValue 20 items).getD s.settings.wMin
          wMax := (itemValue 21 items).getD s.settings.wMax, margin := (itemValue 22 items).getD s.settings.margin } →
    (s.run ≠ .stopped → exec .configureAlignment s = .next (s.replied m rest .state .none)) ∧
    (s.run = .stopped → (∃ item ∈ items, itemInRange item = false) →
      exec .configureAlignment s = .next (s.replied m rest .range .none)) ∧
    (s.run = .stopped → (∀ item ∈ items, itemInRange item = true) →
      (g.wMax < g.wMin → exec .configureAlignment s = .next (s.replied m rest .range .none)) ∧
      (g.wMin ≤ g.wMax →
        (∀ i < s.records.length, (s.record i).state ≠ .free → rateCompatible (s.record i).rs g.rout = false →
          (∀ j < i, (s.record j).state = .free ∨ rateCompatible (s.record j).rs g.rout = true) →
          exec .configureAlignment s = .next (s.replied m rest .rate (.index i))) ∧
        ((∀ r ∈ s.records, r.state = .free ∨ rateCompatible r.rs g.rout = true) →
          exec .configureAlignment s = .next (State.replied m rest .done .none { s with settings := g }))))

/-- R171: CONFIGURE TIMEBASE stages its named settings in every state of the engine and the timebase, or is answered
RANGE. R172: SET TIME. R44: READ TIME. -/
def Obligations.TimebaseCommands : Prop :=
  (∀ (s : State) (m : Message) (rest : List Message), s.offers m rest → m.kind.toNat = 3 →
     (m.items 0 24 26 = none ∨ m.items 0 24 26 = some [] →
       exec .configureTimebase s = .next (s.replied m rest .malformed .none)) ∧
     (∀ items, m.items 0 24 26 = some items → items ≠ [] →
       ((∃ item ∈ items, itemInRange item = false) →
         exec .configureTimebase s = .next (s.replied m rest .range .none)) ∧
       ((∀ item ∈ items, itemInRange item = true) →
         exec .configureTimebase s = .next (State.replied m rest .done .none { s with
           tb := { s.tb with
             staged :=
               { tolerance :=
                   if (itemValue 24 items).isSome then itemValue 24 items else s.tb.staged.tolerance
                 stepLimit := if (itemValue 25 items).isSome then itemValue 25 items else s.tb.staged.stepLimit
                 holdoverLimit :=
                   if (itemValue 26 items).isSome then itemValue 26 items else s.tb.staged.holdoverLimit } } })))) ∧
  (∀ (s : State) (m : Message) (rest : List Message), s.offers m rest → m.kind.toNat = 4 →
     (m.len ≠ 4 → exec .setTime s = .next (s.replied m rest .malformed .none)) ∧
     (m.len = 4 → s.run ≠ .stopped → exec .setTime s = .next (s.replied m rest .state .none)) ∧
     (m.len = 4 → s.run = .stopped → s.tb.state = .free →
       exec .setTime s = .next (State.replied m rest .done .none { s with
         time := { sec := fieldAt m.body 0 4, ns := 0 }, tb := { s.tb with armed := none } })) ∧
     (m.len = 4 → s.run = .stopped → s.tb.state ≠ .free →
       exec .setTime s = .next (State.replied m rest .deferred .none { s with
         tb := { s.tb with armed := some (fieldAt m.body 0 4) } }))) ∧
  (∀ (s : State) (m : Message) (rest : List Message), s.offers m rest → m.kind.toNat = 5 → m.len = 0 →
     exec .readTime s = .next (s.replied m rest .done (.time s.time s.tb.state s.tb.armed)))

/-- R130, R131: START begins a run while STOPPED, and is answered STATE otherwise.
R130, R132 to R134, R173: STOP DRAIN and STOP FLUSH in every run state, and the drain that ends at once on an empty
window. A mode other than 0 or 1 is answered RANGE (by either row [15]). -/
def Obligations.StartAndStop : Prop :=
  (∀ (s : State) (m : Message) (rest : List Message), s.offers m rest → m.kind.toNat = 6 → m.len = 0 →
     (s.run = .stopped → exec .start s = .next (State.replied m rest .done .none { s with
       run := .running, nextEpoch := firstEpochAfter s.settings.rout s.time, newest := none })) ∧
     (s.run ≠ .stopped → exec .start s = .next (s.replied m rest .state .none))) ∧
  (∀ (s : State) (m : Message) (rest : List Message), s.offers m rest → m.kind.toNat = 7 → m.len = 1 →
     (fieldAt m.body 0 1 = 0 →
       (s.run ≠ .running → exec .stopDrain s = .next (s.replied m rest .done .none)) ∧
       (s.run = .running → (s.window ≠ [] ∨ s.emission ≠ none) →
         exec .stopDrain s = .next (State.replied m rest .done .none { s with run := .draining, nextEpoch := none })) ∧
       (s.run = .running → s.window = [] → s.emission = none →
         exec .stopDrain s = .next (State.replied m rest .done .none { s with
           run := .stopped, nextEpoch := none, causes := s.causes ||| EngineCause.drained }))) ∧
     (fieldAt m.body 0 1 = 1 →
       (s.run = .stopped → exec .stopFlush s = .next (s.replied m rest .done .none)) ∧
       (s.run ≠ .stopped → (s.window ≠ [] ∨ s.emission ≠ none) →
         exec .stopFlush s = .next (State.replied m rest .done .none (State.beginEmission { s with
           run := .draining, nextEpoch := none
           window := s.window.map (fun sl =>
             if sl.status = .opened then { sl with status := .due .flush } else sl) }))) ∧
       (s.run ≠ .stopped → s.window = [] → s.emission = none →
         exec .stopFlush s = .next (State.replied m rest .done .none { s with
           run := .stopped, nextEpoch := none, causes := s.causes ||| EngineCause.drained }))) ∧
     (1 < fieldAt m.body 0 1 →
       exec .stopDrain s = .next (s.replied m rest .range .none) ∧
       exec .stopFlush s = .next (s.replied m rest .range .none)))

/-- R7, R65, R128, R135, R151, R190: RESET ENGINE in every run state, with all it keeps. The handling of a frame that intake
has taken ends before the reset, in its event [24]; `h` is the state after it, in which no other frame is taken. -/
def Obligations.ResetEngineClearsTheRun : Prop :=
  ∀ (s h : State) (m : Message) (rest : List Message), s.offers m rest → m.kind.toNat = 8 → m.len = 0 →
    (s.handling = none → h = s) → (s.handling ≠ none → exec .frameHandling { s with fifo := [] } = .next h) →
    exec .resetEngine s = .next (State.replied m rest .done .none { h with
      run := .stopped, nextEpoch := none, newest := none, window := [], emission := none
      records := h.records.map (fun r => if r.state = .retiring then Record.vacant else { r with held := 0 })
      counters :=
        { sets := 0, complete := 0, deadline := 0, windowFull := 0, flush := 0, skipped := 0
          dropped := min s.fifo.length 4294967295, unknown := 0 }
      fifo := [], egress := if h.transmitting = true then h.egress.take 1 else [], causes := 0 })

/-- R174: SET ENGINE CAUSE MASK.
R188, R189: TAKE ENGINE CAUSES answers with every pending engine cause, masked or not, and empties the set; ATTN_E,
which follows the pending causes in the mask, is then deasserted. -/
def Obligations.EngineMaskAndCauses : Prop :=
  ((∀ s : State, ∃ t, exec .powerOn s = .next t ∧ t.mask = 0b111111) ∧
   (∀ (s : State) (m : Message) (rest : List Message), s.offers m rest → m.kind.toNat = 9 →
     (m.len ≠ 1 → exec .setEngineCauseMask s = .next (s.replied m rest .malformed .none)) ∧
     (m.len = 1 → 64 ≤ fieldAt m.body 0 1 → exec .setEngineCauseMask s = .next (s.replied m rest .range .none)) ∧
     (∀ mask : CauseSet, m.len = 1 → fieldAt m.body 0 1 = mask.toNat →
       exec .setEngineCauseMask s = .next (State.replied m rest .done .none { s with mask })))) ∧
  ((∀ s : State, s.attnE = true ↔ s.resetAsserted = false ∧ s.causes &&& s.mask ≠ 0) ∧
   (∀ (s : State) (m : Message) (rest : List Message), s.offers m rest → m.kind.toNat = 10 → m.len = 0 →
     exec .takeEngineCauses s =
       .next (State.replied m rest .done (.causes s.causes) { s with causes := 0 }) ∧
     (State.replied m rest .done (.causes s.causes) { s with causes := 0 }).attnE = false))

/-! ### Stream commands -/

/-- R11, R16, R18, R175: what a REGISTER STREAM spells, the options it does not name taking R2's defaults; its checks in
order; an accepted one starts the insertion edit for the lowest-indexed FREE record, which stays FREE. -/
def Obligations.RegisterChecksInOrder : Prop :=
  ∀ (s : State) (m : Message) (rest : List Message) (items : List Item) (g : Registration), s.offers m rest →
    m.kind.toNat = 16 → m.items 11 2 9 = some items → g = Registration.ofBody m.body items →
    (g.streamId = fieldAt m.body 0 4 ∧ g.rs = fieldAt m.body 5 1 ∧ g.tb = fieldAt m.body 6 3 ∧
      g.p = fieldAt m.body 9 1 ∧ g.a = fieldAt m.body 10 1 ∧
      (fieldAt m.body 4 1 = 0 → g.cls = .member) ∧ (fieldAt m.body 4 1 = 1 → g.cls = .guest) ∧
      g.opts =
        { rotate := if itemValue 2 items = some 1 then true else false
          tau := (itemValue 3 items).getD 100
          rho := (itemValue 4 items).getD 0
          filterN := (itemValue 5 items).getD 4
          silenceLimit := (itemValue 6 items).getD 100
          qualityLimit := (itemValue 7 items).getD 15
          watchMask := BitVec.ofNat 16 ((itemValue 8 items).getD 0)
          causeEnable := BitVec.ofNat 6 ((itemValue 9 items).getD 0b000111) }) ∧
    ((g.streamId = 0 ∨ 1 < fieldAt m.body 4 1 ∨ g.rs ∉ streamRates ∨ g.tb = 0 ∨ 12 < g.p ∨ 4 < g.a ∨
        (∃ item ∈ items, itemInRange item = false)) →
      exec .registerStream s = .next (s.replied m rest .range .none)) ∧
    (g.streamId ≠ 0 → fieldAt m.body 4 1 ≤ 1 → g.rs ∈ streamRates → g.tb ≠ 0 → g.p ≤ 12 → g.a ≤ 4 →
      (∀ item ∈ items, itemInRange item = true) →
      (s.knows g.streamId → exec .registerStream s = .next (s.replied m rest .exist .none)) ∧
      (¬ s.knows g.streamId →
        (rateCompatible g.rs s.settings.rout = false →
          exec .registerStream s = .next (s.replied m rest .rate .none)) ∧
        (rateCompatible g.rs s.settings.rout = true →
          ((∀ r ∈ s.records, r.state ≠ .free) →
            exec .registerStream s = .next (s.replied m rest .full .none)) ∧
          (∀ i < s.records.length, (s.record i).state = .free → (∀ j < i, (s.record j).state ≠ .free) →
            exec .registerStream s = .next (s.edits m rest (.insertion i g))))))

/-- R8, R21 to R23, R25: AMEND STREAM: NOT_FOUND, then RANGE; the cause enable at once; the other fields merged into the
pending amendment, a named field replacing what it held and an unnamed one staying; the amendment is applied at once while
STOPPED (DONE), field by field with F recomputed for an amended N, and waits otherwise (DEFERRED). -/
def Obligations.AmendAppliesOrStages : Prop :=
  ∀ (s : State) (m : Message) (rest : List Message) (items : List Item), s.offers m rest →
    m.kind.toNat = 17 → m.items 4 1 9 = some items →
    (¬ s.knows (fieldAt m.body 0 4) → exec .amendStream s = .next (s.replied m rest .notFound .none)) ∧
    (∀ i, s.lookup (fieldAt m.body 0 4) = some i →
      ((∃ item ∈ items, itemInRange item = false) →
        exec .amendStream s = .next (s.replied m rest .range .none)) ∧
      (∀ (enabled : Record) (held merged : Amendment), (∀ item ∈ items, itemInRange item = true) →
        (itemValue 9 items = none → enabled = s.record i) →
        (∀ v, itemValue 9 items = some v →
          enabled = { s.record i with opts := { (s.record i).opts with causeEnable := BitVec.ofNat 6 v } }) →
        ((s.record i).amend = none → held =
          { cls := none, rotate := none, tau := none, rho := none, filterN := none, silenceLimit := none
            qualityLimit := none, watchMask := none }) →
        (∀ m, (s.record i).amend = some m → held = m) →
        merged =
          { cls :=
              if itemValue 1 items = none then held.cls
              else if itemValue 1 items = some 0 then some .member else some .guest
            rotate := if itemValue 2 items = none then held.rotate else some (itemValue 2 items == some 1)
            tau := if itemValue 3 items = none then held.tau else itemValue 3 items
            rho := if itemValue 4 items = none then held.rho else itemValue 4 items
            filterN := if itemValue 5 items = none then held.filterN else itemValue 5 items
            silenceLimit := if itemValue 6 items = none then held.silenceLimit else itemValue 6 items
            qualityLimit := if itemValue 7 items = none then held.qualityLimit else itemValue 7 items
            watchMask :=
              if itemValue 8 items = none then held.watchMask
              else (itemValue 8 items).map (BitVec.ofNat 16) } →
        ((∀ item ∈ items, item.1 = 9) →
          exec .amendStream s =
            .next (State.replied m rest .done .none { s with records := s.records.set i enabled })) ∧
        ((∃ item ∈ items, item.1 ≠ 9) → s.run = .stopped →
          exec .amendStream s = .next (State.replied m rest .done .none { s with
            records := s.records.set i { enabled with
              cls := merged.cls.getD enabled.cls
              opts := { enabled.opts with
                rotate := merged.rotate.getD enabled.opts.rotate
                tau := merged.tau.getD enabled.opts.tau
                rho := merged.rho.getD enabled.opts.rho
                filterN := merged.filterN.getD enabled.opts.filterN
                silenceLimit := merged.silenceLimit.getD enabled.opts.silenceLimit
                qualityLimit := merged.qualityLimit.getD enabled.opts.qualityLimit
                watchMask := merged.watchMask.getD enabled.opts.watchMask }
              filtered :=
                match merged.filterN with
                | some n => filteredLatency n enabled.history
                | none => enabled.filtered
              amend := none } })) ∧
        ((∃ item ∈ items, item.1 ≠ 9) → s.run ≠ .stopped →
          exec .amendStream s = .next (State.replied m rest .deferred .none { s with
            records := s.records.set i { enabled with amend := some merged } }))))

/-- R8, R20, R26 to R29, R177: the four commands that name a stream and nothing else, NOT_FOUND first. A record that
leaves ACTIVE leaves the expected sets, which can complete a slot.
R20, R121, R123: a record's index leaves the expected set of an OPEN slot that holds no entry for it, and the slot is
DUE with COMPLETE if it is then complete; every other slot stays as it is. -/
def Obligations.SuspendResumeResetRetire : Prop :=
  (∀ (s : State) (m : Message) (rest : List Message) (id : Nat), s.offers m rest → m.len = 4 →
     fieldAt m.body 0 4 = id →
     (∀ row ∈ [(Instr.suspendStream, 18), (.resumeStream, 19), (.resetStream, 20), (.retireStream, 21),
         (.lookupStream, 22)],
       m.kind.toNat = row.2 → ¬ s.knows id → exec row.1 s = .next (s.replied m rest .notFound .none)) ∧
     (∀ (i : Nat) (r : Record), s.lookup id = some i → s.record i = r →
       (m.kind.toNat = 18 → r.state = .suspended → exec .suspendStream s = .next (s.replied m rest .done .none)) ∧
       (m.kind.toNat = 18 → r.state = .active →
         exec .suspendStream s = .next (State.replied m rest .done .none (State.beginEmission { s with
           window := s.window.map (Slot.dropExpected i)
           records := s.records.set i { r with state := .suspended, silence := 0, recovery := 0 } }))) ∧
       (m.kind.toNat = 18 → r.state ≠ .suspended → r.state ≠ .active →
         exec .suspendStream s = .next (State.replied m rest .done .none { s with
           records := s.records.set i { r with state := .suspended, silence := 0, recovery := 0 } })) ∧
       (m.kind.toNat = 19 → r.state = .suspended →
         exec .resumeStream s = .next (State.replied m rest .done .none { s with
           records := s.records.set i { r with state := .pending } })) ∧
       (m.kind.toNat = 19 → r.state ≠ .suspended →
         exec .resumeStream s = .next (s.replied m rest .state .none)) ∧
       (∀ fresh, fresh = { r with
           state := if r.state = .suspended then .suspended else .pending
           history := [], filtered := none, clock := .locked, disagree := 0, silence := 0, recovery := 0
           counters := RecordCounters.zero, causes := 0, amend := none } →
         (m.kind.toNat = 20 → r.state = .active →
           exec .resetStream s = .next (State.replied m rest .done .none (State.beginEmission { s with
             window := s.window.map (Slot.dropExpected i), records := s.records.set i fresh }))) ∧
         (m.kind.toNat = 20 → r.state ≠ .active →
           exec .resetStream s = .next (State.replied m rest .done .none { s with
             records := s.records.set i fresh }))) ∧
       (m.kind.toNat = 21 → exec .retireStream s = .next (s.edits m rest (.removal id i))))) ∧
  (∀ (i : Nat) (sl : Slot),
     (sl.status ≠ .opened ∨ sl.expects i = false ∨ sl.hasEntry i = true → sl.dropExpected i = sl) ∧
     (∀ left, sl.status = .opened → sl.expects i = true → sl.hasEntry i = false →
       left = { sl with expected := sl.expected.filter (fun m => m.1 != i) } →
       ((sl.snapshot ≠ 0 ∧ ∀ m ∈ left.expected, sl.hasEntry m.1 = true) →
         sl.dropExpected i = { left with status := .due .complete }) ∧
       ((sl.snapshot = 0 ∨ ∃ m ∈ left.expected, sl.hasEntry m.1 = false) → sl.dropExpected i = left)))

/-- R14: LOOKUP STREAM. R15: LIST STREAMS. -/
def Obligations.LookupAndList : Prop :=
  (∀ (s : State) (m : Message) (rest : List Message), s.offers m rest → m.kind.toNat = 22 → m.len = 4 →
     (∀ i, s.DirectorySound → (fieldAt m.body 0 4, i) ∈ s.directory →
       exec .lookupStream s = .next (s.replied m rest .done (.lookup i (s.record i).state)) ∧
       ((s.record i).state = .pending ∨ (s.record i).state = .active ∨ (s.record i).state = .silent ∨
         (s.record i).state = .recovering ∨ (s.record i).state = .suspended)) ∧
     (¬ s.knows (fieldAt m.body 0 4) → exec .lookupStream s = .next (s.replied m rest .notFound .none))) ∧
  (∀ (s : State) (m : Message) (rest : List Message) (found : List (Nat × Nat)), s.offers m rest →
     m.kind.toNat = 23 → m.len = 4 → found = s.directory.filter (fun p => fieldAt m.body 0 4 ≤ p.1) →
     (found.length ≤ 16 → exec .listStreams s = .next (s.replied m rest .done (.pairs found false))) ∧
     (16 < found.length → exec .listStreams s = .next (s.replied m rest .done (.pairs (found.take 16) true))) ∧
     (s.DirectorySound → (found.map (·.1)).Pairwise (· < ·)))

/-- R8, R9, R179: READ STREAM by index and by ID, with its clear option. -/
def Obligations.ReadStreamReturnsTheRecord : Prop :=
  ∀ (s : State) (m : Message) (rest : List Message), s.offers m rest → m.kind.toNat = 24 → m.len = 6 →
    ((1 < fieldAt m.body 0 1 ∨ 1 < fieldAt m.body 5 1) →
      exec .readStream s = .next (s.replied m rest .range .none)) ∧
    (fieldAt m.body 0 1 = 0 → fieldAt m.body 5 1 ≤ 1 → 1023 < fieldAt m.body 1 4 →
      exec .readStream s = .next (s.replied m rest .range .none)) ∧
    (fieldAt m.body 0 1 = 1 → fieldAt m.body 5 1 ≤ 1 → ¬ s.knows (fieldAt m.body 1 4) →
      exec .readStream s = .next (s.replied m rest .notFound .none)) ∧
    (∀ i, ((fieldAt m.body 0 1 = 0 ∧ fieldAt m.body 1 4 = i ∧ i ≤ 1023) ∨
        (fieldAt m.body 0 1 = 1 ∧ s.lookup (fieldAt m.body 1 4) = some i)) →
      (fieldAt m.body 5 1 = 0 →
        exec .readStream s = .next (s.replied m rest .done (.stream i (s.record i)))) ∧
      (fieldAt m.body 5 1 = 1 →
        exec .readStream s = .next (State.replied m rest .done (.stream i (s.record i)) { s with
          records := s.records.set i { s.record i with
            counters :=
              { placed := 0, late := 0, duplicate := 0, decimated := 0, misaligned := 0, ahead := 0, shape := 0,
                refused := 0, idle := 0 } } })))

/-- R180, R183, R185: TAKE STREAM CAUSES searches from the scan pointer plus 1, all indices once and the pointer's last;
the first record with an enabled pending cause has those causes taken, its other causes stay, and the pointer moves to
it. ATTN_S is asserted while a record holds an enabled pending cause.
R184: the scan pointer moves when TAKE STREAM CAUSES finds a record, to its index, and at power-on, and never
else. -/
def Obligations.TakeStreamCausesScans : Prop :=
  ((∀ s : State, s.attnS = true ↔
     s.resetAsserted = false ∧ ∃ r ∈ s.records, r.causes &&& r.opts.causeEnable ≠ 0) ∧
   (∀ (s : State) (m : Message) (rest : List Message), s.offers m rest → m.kind.toNat = 25 → m.len = 0 →
     s.records.length = 1024 → s.scanPtr < 1024 →
     ((∀ r ∈ s.records, r.causes &&& r.opts.causeEnable = 0) →
       exec .takeStreamCauses s = .next (s.replied m rest .done .noneFound)) ∧
     (∀ (d i : Nat) (r : Record), d < 1024 → i = (s.scanPtr + 1 + d) % 1024 → r = s.record i →
       r.causes &&& r.opts.causeEnable ≠ 0 →
       (∀ d' < d, (s.record ((s.scanPtr + 1 + d') % 1024)).causes &&&
         (s.record ((s.scanPtr + 1 + d') % 1024)).opts.causeEnable = 0) →
       exec .takeStreamCauses s =
         .next (State.replied m rest .done (.taken i r.streamId (r.causes &&& r.opts.causeEnable)) { s with
           scanPtr := i
           records := s.records.set i { r with causes := r.causes &&& ~~~r.opts.causeEnable } })))) ∧
  ((∀ s : State, ∃ t, exec .powerOn s = .next t ∧ t.scanPtr = 1023) ∧
   (∀ (c : Instr) (s t : State), exec c s = .next t → c ≠ .powerOn → t.scanPtr ≠ s.scanPtr →
     (c = .takeStreamCauses ∨ testsForStart c) ∧
       ∃ a id cs, t.port = .answering a ∧ a.kind.toNat = 25 ∧ a.ret = .taken t.scanPtr id cs) ∧
   (∀ (s t : State) (a : Answer), s.port = .idle → exec .takeStreamCauses s = .next t → t.port = .answering a →
     (∀ i id c, a.ret = .taken i id c → t.scanPtr = i) ∧ (a.ret = .noneFound → t.scanPtr = s.scanPtr)) ∧
   (∀ (c : Instr) (s t : State), s.records.length = 1024 → s.scanPtr < 1024 → exec c s = .next t →
     t.scanPtr < 1024))

/-! ### Owners, wire formats -/

/-- R10, R32, R34, R130, R136, R153, R188: who may change what. The directory changes at the completion of an edit; the
alignment settings by CONFIGURE ALIGNMENT while STOPPED; the engine mask by its command; the timebase settings in force
and local time at a PPS edge, and local time by SET TIME; the run state by START, STOP, RESET ENGINE and the end of a
drain at an emission's completion. Power-on changes all of them. A reception and the end of an answer change what the
command changes that they start (R164), and never the directory, the settings in force or ready. -/
def Obligations.OwnersOfTheState : Prop :=
  ∀ (c : Instr) (s t : State), exec c s = .next t → c ≠ .powerOn →
    (t.directory ≠ s.directory → c = .insertionEditCompletion ∨ c = .removalEditCompletion) ∧
    (t.settings ≠ s.settings → (c = .configureAlignment ∨ testsForStart c) ∧ s.run = .stopped) ∧
    (t.mask ≠ s.mask → c = .setEngineCauseMask ∨ testsForStart c) ∧
    (t.tb.inForce ≠ s.tb.inForce → c = .ppsEdge) ∧
    (t.time ≠ s.time → c = .ppsEdge ∨ c = .setTime ∨ testsForStart c) ∧
    (t.run ≠ s.run →
      c = .start ∨ c = .stopDrain ∨ c = .stopFlush ∨ c = .resetEngine ∨ c = .emissionCompletion ∨ testsForStart c) ∧
    (t.ready ≠ s.ready → c = .readyAssert ∨ c = .readyWithdraw)

/-- Chapter 11's codes. R192, R194: every field of the part's output, most significant byte first, in its order and size;
the order of an amendment's items is the model's choice [21], and so are the bytes 1 and 0 of the "more" and the found
flag [22].
R192, R193, R194: the lengths. A set is 20 bytes and, for each entry, 7 bytes or 24 + 4p + 2a; an answer is 4 bytes and its
return fields, whose length its header gives, and the part builds none with more than 116 bytes, reached by READ STREAM with
a full history, a present F and an amendment of all eight codes. -/
def Obligations.LengthsAndBytesOnTheWire : Prop :=
  ([ReleaseCause.complete, .deadline, .windowFull, .flush].map (·.code) = [0, 1, 2, 3] ∧
   [TbState.free, .acquiring, .locked, .holdover].map (·.code) = [0, 1, 2, 3] ∧
   [RunState.stopped, .running, .draining].map (·.code) = [0, 1, 2] ∧
   [RecState.free, .pending, .active, .silent, .recovering, .suspended, .retiring].map (·.code) = [0, 1, 2, 3, 4, 5, 6] ∧
   [ClockState.locked, .unlocked].map (·.code) = [0, 1] ∧
   [Status.done, .deferred, .state, .range, .rate, .exist, .full, .notFound, .malformed].map (·.code) =
     [0, 1, 2, 3, 4, 5, 6, 7, 8] ∧
   [StreamClass.member, .guest].map (·.code) = [0, 1] ∧ [WaitMode.fixed, .adaptive].map (·.code) = [0, 1] ∧
   [StreamCause.silent, StreamCause.recovered, StreamCause.clock, StreamCause.watch, StreamCause.misalign,
     StreamCause.late].map (·.toNat) = [1, 2, 4, 8, 16, 32] ∧
   [EngineCause.tbState, EngineCause.epochSkipped, EngineCause.windowFull, EngineCause.ingressDrop,
     EngineCause.unknownId, EngineCause.drained].map (·.toNat) = [1, 2, 4, 8, 16, 32] ∧
   (∀ n v : Nat, (beBytes n v).length = n ∧
     ∀ i < n, (beBytes n v)[i]? = some (BitVec.ofNat 8 (v / 256 ^ (n - 1 - i))))) ∧
  ((∀ a : AlignedSet, a.bytes =
      beBytes 4 a.header.epoch.sec ++ beBytes 1 a.header.epoch.k ++ beBytes 1 a.header.rout ++
      beBytes 1 a.header.cause.code ++ beBytes 1 a.header.tbState.code ++ beBytes 4 a.header.wait ++
      beBytes 2 a.header.expectedCount ++ beBytes 2 a.header.memberCount ++ beBytes 2 a.header.guestCount ++
      beBytes 2 a.header.entryCount ++ a.entries.flatMap SetEntry.bytes) ∧
   (∀ i id : Nat, (SetEntry.absent i id).bytes = beBytes 2 i ++ [0] ++ beBytes 4 id) ∧
   (∀ e : Entry, (SetEntry.present e).bytes =
      beBytes 2 e.index ++
      [0b10000000 ||| (if e.align = .rotated then 0b01000000 else 0) |||
        (if e.suspect = true then 0b00100000 else 0) ||| (if e.extra = true then 0b00010000 else 0)] ++
      beBytes 4 e.streamId ++ beBytes 2 e.flags.toNat ++ beBytes 4 (e.residual % 4294967296).toNat ++
      beBytes 3 e.latency ++ beBytes 1 e.data.phasors.length ++ beBytes 1 e.data.analogs.length ++
      e.data.phasors.flatMap (fun ph => beBytes 2 ph.magnitude.toNat ++ beBytes 2 ph.angle.toNat) ++
      beBytes 2 e.data.freqDev.toNat ++ beBytes 2 e.data.rocof.toNat ++
      e.data.analogs.flatMap (fun a => beBytes 2 a.toNat) ++ beBytes 2 e.data.digital.toNat)) ∧
  ((∀ a : Answer, a.bytes =
      [a.kind, a.tag] ++ beBytes 1 a.status.code ++ beBytes 1 a.ret.bytes.length ++ a.ret.bytes) ∧
   ReturnFields.none.bytes = [] ∧ ReturnFields.noneFound.bytes = [0] ∧
   (∀ i : Nat, (ReturnFields.index i).bytes = beBytes 2 i) ∧
   (∀ (i : Nat) (st : RecState), (ReturnFields.lookup i st).bytes = beBytes 2 i ++ beBytes 1 st.code) ∧
   (∀ c : CauseSet, (ReturnFields.causes c).bytes = beBytes 1 c.toNat) ∧
   (∀ (i id : Nat) (c : CauseSet), (ReturnFields.taken i id c).bytes =
      [1] ++ beBytes 2 i ++ beBytes 4 id ++ beBytes 1 c.toNat) ∧
   (∀ (ps : List (Nat × Nat)) (more : Bool), (ReturnFields.pairs ps more).bytes =
      beBytes 1 ps.length ++ ps.flatMap (fun p => beBytes 4 p.1 ++ beBytes 2 p.2) ++
      [if more = true then 1 else 0]) ∧
   (∀ (size v : Nat), optionalBytes size none = [0] ∧ optionalBytes size (some v) = 1 :: beBytes size v) ∧
   (∀ (t : LocalTime) (tb : TbState) (armed : Option Nat), (ReturnFields.time t tb armed).bytes =
      beBytes 4 t.sec ++ beBytes 4 t.ns ++ beBytes 1 tb.code ++ optionalBytes 4 armed) ∧
   (∀ r : EngineReport, (ReturnFields.engine r).bytes =
      beBytes 1 r.run.code ++ beBytes 1 r.tbState.code ++ beBytes 1 r.openSlots ++ beBytes 1 r.dueSlots ++
      beBytes 1 r.occupancy ++ beBytes 2 r.freeRecords ++ optionalBytes 4 r.newestWait ++
      beBytes 1 r.settings.rout ++ beBytes 1 r.settings.f0 ++ beBytes 1 r.settings.mode.code ++
      beBytes 4 r.settings.wFixed ++ beBytes 4 r.settings.wMin ++ beBytes 4 r.settings.wMax ++
      beBytes 1 r.settings.margin ++ beBytes 4 r.tbSettings.tolerance ++ beBytes 4 r.tbSettings.stepLimit ++
      beBytes 2 r.tbSettings.holdoverLimit ++ beBytes 1 r.mask.toNat ++
      [r.counters.sets, r.counters.complete, r.counters.deadline, r.counters.windowFull, r.counters.flush,
        r.counters.skipped, r.counters.dropped, r.counters.unknown].flatMap (beBytes 4)) ∧
   (∀ (i : Nat) (r : Record), (ReturnFields.stream i r).bytes =
      beBytes 2 i ++ beBytes 1 r.state.code ++ beBytes 4 r.streamId ++ beBytes 1 r.cls.code ++ beBytes 1 r.rs ++
      beBytes 3 r.tb ++ beBytes 1 r.p ++ beBytes 1 r.a ++ [if r.opts.rotate = true then 1 else 0] ++
      beBytes 2 r.opts.tau ++ beBytes 2 r.opts.rho ++ beBytes 1 r.opts.filterN ++ beBytes 1 r.opts.silenceLimit ++
      beBytes 1 r.opts.qualityLimit ++ beBytes 2 r.opts.watchMask.toNat ++ beBytes 1 r.opts.causeEnable.toNat ++
      amendmentField r.amend ++ beBytes 1 r.history.length ++ r.history.flatMap (beBytes 3) ++
      optionalBytes 3 r.filtered ++ beBytes 1 r.clock.code ++ beBytes 1 r.disagree ++ beBytes 1 r.silence ++
      beBytes 1 r.recovery ++ beBytes 1 r.held ++ beBytes 1 r.causes.toNat ++
      [r.counters.placed, r.counters.late, r.counters.duplicate, r.counters.decimated, r.counters.misaligned,
        r.counters.ahead, r.counters.shape, r.counters.refused, r.counters.idle].flatMap (beBytes 4)) ∧
   amendmentField none = [0] ∧
   (∀ (m : Amendment) (body : List Byte),
      body =
        [(1, 1, m.cls.map StreamClass.code), (2, 1, m.rotate.map (fun r => if r = true then 1 else 0)), (3, 2, m.tau),
          (4, 2, m.rho), (5, 1, m.filterN), (6, 1, m.silenceLimit), (7, 1, m.qualityLimit),
          (8, 2, m.watchMask.map BitVec.toNat)].flatMap (fun (row : Nat × Nat × Option Nat) =>
            row.2.2.toList.flatMap (fun v => Item.wire row.2.1 (row.1, v))) →
      amendmentField (some m) = beBytes 1 body.length ++ body)) ∧
  ((∀ a : AlignedSet, a.bytes.length = 20 + (a.entries.map (fun x =>
      match x with
      | .present e => 24 + 4 * e.data.phasors.length + 2 * e.data.analogs.length
      | .absent _ _ => 7)).sum) ∧
   (∀ a : Answer, a.bytes.length = 4 + a.ret.bytes.length) ∧
   (∀ (i : Nat) (r : Record) (m : Amendment), r.history.length = 8 → r.filtered.isSome → r.amend = some m →
      m.cls.isSome → m.rotate.isSome → m.tau.isSome → m.rho.isSome → m.filterN.isSome → m.silenceLimit.isSome →
      m.qualityLimit.isSome → m.watchMask.isSome → (ReturnFields.stream i r).bytes.length = 116) ∧
   (∀ (c : Instr) (s t : State), (∀ r ∈ s.records, r.history.length ≤ 8) →
      (∀ a, s.port = .answering a → a.ret.bytes.length ≤ 116) → exec c s = .next t →
      ∀ a, t.port = .answering a → a.ret.bytes.length ≤ 116))

/-! ### Invariants -/

/-- R53, R108, R150, R163: every step keeps the FIFO, the window, the egress buffer and the command queue within their
capacities, the set in transmission in the buffer, and a place in the queue for the message in reception. R164: no message
waits while no command is in progress. R54: no frame waits while intake could take it. -/
def Obligations.CapacitiesKept : Prop :=
  ∀ s t : State, s.WithinCapacity → step s = .next t → t.WithinCapacity

/-- R45, R108, R115, R134, R146: every step keeps the run state consistent with the window, and the slots of the run,
the newest epoch and the next epoch in strictly ascending order.
R146, R150: past the sets of earlier runs, the sets of a run stand in the egress buffer in strictly ascending order, below
its slots. A step adds sets at the newest end and takes them from the oldest; at the start of a run every set in the buffer
is of an earlier one. -/
def Obligations.RunOrderKept : Prop :=
  (∀ s t : State, s.Running → step s = .next t → t.Running) ∧
  (∀ (s t : State) (old : Nat), s.Running → s.SetsInOrder old → step s = .next t →
    (s.run = .stopped → t.run ≠ .stopped → t.SetsInOrder t.egress.length) ∧
    (s.run ≠ .stopped ∨ t.run = .stopped → t.SetsInOrder (old - (s.egress.length - t.egress.length))))

/-- R5, R10, R30, R125: every step keeps the directory and the records agreed, and every held count the number of window
slots with an entry of its record. -/
def Obligations.RegistryKept : Prop :=
  ∀ s t : State, s.Registered → step s = .next t → t.Registered

/-- R10: the number of pairs is the number of records in the five states. -/
def Obligations.DirectoryCountsItsRecords : Prop :=
  ∀ s : State, s.DirectorySound →
    s.directory.length = s.records.countP (fun r => r.state.inDirectory) ∧ (s.directory.map (·.2)).Nodup

/-- R1 to R3, R23, R90 to R101: while the directory is sound (RegistryKept), every step keeps every record's fields in range
and its health consistent.
R17, R138: likewise every record that is not FREE stays compatible with the output rate in force. -/
def Obligations.RecordsKept : Prop :=
  (∀ s t : State, s.DirectorySound → s.RecordsValid → step s = .next t → t.RecordsValid) ∧
  (∀ s t : State, s.DirectorySound → s.RatesFit → step s = .next t → t.RatesFit)

/-- R109 to R111, R121, R137, R141, R160: every step keeps every slot sound and every buffered set agreeing with its
header. -/
def Obligations.SlotsKept : Prop :=
  ∀ s t : State, s.SlotsSound → step s = .next t → t.SlotsSound

/-- Every invariant holds at reset: those of the steps above, the order of the sets in the egress buffer with no set of an
earlier run, and the range of the scan pointer (R184). -/
def Obligations.InvariantsHoldAtReset : Prop :=
  State.reset.WithinCapacity ∧ State.reset.InRange ∧ State.reset.Registered ∧ State.reset.RecordsValid ∧
    State.reset.RatesFit ∧ State.reset.SlotsSound ∧ State.reset.SetsInOrder 0 ∧ State.reset.scanPtr < 1024
end

