-- ==== Sys2Proof/Laws/State.lean ====
section
/-! SUPPORT. One lemma per field per named update of the state: what the update leaves alone, and what it writes. -/

namespace Sys2Proof.Machine

/-! ### State.raise -/

@[simp] theorem State.raise_pending (c : CauseSet) (s : State) : (State.raise c s).pending = s.pending := rfl
@[simp] theorem State.raise_periods (c : CauseSet) (s : State) : (State.raise c s).periods = s.periods := rfl
@[simp] theorem State.raise_resetAsserted (c : CauseSet) (s : State) :
    (State.raise c s).resetAsserted = s.resetAsserted := rfl
@[simp] theorem State.raise_ready (c : CauseSet) (s : State) : (State.raise c s).ready = s.ready := rfl
@[simp] theorem State.raise_time (c : CauseSet) (s : State) : (State.raise c s).time = s.time := rfl
@[simp] theorem State.raise_tb (c : CauseSet) (s : State) : (State.raise c s).tb = s.tb := rfl
@[simp] theorem State.raise_nextEpoch (c : CauseSet) (s : State) : (State.raise c s).nextEpoch = s.nextEpoch := rfl
@[simp] theorem State.raise_records (c : CauseSet) (s : State) : (State.raise c s).records = s.records := rfl
@[simp] theorem State.raise_directory (c : CauseSet) (s : State) : (State.raise c s).directory = s.directory := rfl
@[simp] theorem State.raise_fifo (c : CauseSet) (s : State) : (State.raise c s).fifo = s.fifo := rfl
@[simp] theorem State.raise_handling (c : CauseSet) (s : State) : (State.raise c s).handling = s.handling := rfl
@[simp] theorem State.raise_window (c : CauseSet) (s : State) : (State.raise c s).window = s.window := rfl
@[simp] theorem State.raise_newest (c : CauseSet) (s : State) : (State.raise c s).newest = s.newest := rfl
@[simp] theorem State.raise_run (c : CauseSet) (s : State) : (State.raise c s).run = s.run := rfl
@[simp] theorem State.raise_settings (c : CauseSet) (s : State) : (State.raise c s).settings = s.settings := rfl
@[simp] theorem State.raise_emission (c : CauseSet) (s : State) : (State.raise c s).emission = s.emission := rfl
@[simp] theorem State.raise_counters (c : CauseSet) (s : State) : (State.raise c s).counters = s.counters := rfl
@[simp] theorem State.raise_egress (c : CauseSet) (s : State) : (State.raise c s).egress = s.egress := rfl
@[simp] theorem State.raise_transmitting (c : CauseSet) (s : State) :
    (State.raise c s).transmitting = s.transmitting := rfl
@[simp] theorem State.raise_reception (c : CauseSet) (s : State) : (State.raise c s).reception = s.reception := rfl
@[simp] theorem State.raise_queue (c : CauseSet) (s : State) : (State.raise c s).queue = s.queue := rfl
@[simp] theorem State.raise_port (c : CauseSet) (s : State) : (State.raise c s).port = s.port := rfl
@[simp] theorem State.raise_causes (c : CauseSet) (s : State) :
    (State.raise c s).causes = s.causes ||| c := rfl
@[simp] theorem State.raise_mask (c : CauseSet) (s : State) : (State.raise c s).mask = s.mask := rfl
@[simp] theorem State.raise_scanPtr (c : CauseSet) (s : State) : (State.raise c s).scanPtr = s.scanPtr := rfl

/-! ### State.setRecord -/

@[simp] theorem State.setRecord_pending (i : Nat) (r : Record) (s : State) :
    (State.setRecord i r s).pending = s.pending := rfl
@[simp] theorem State.setRecord_periods (i : Nat) (r : Record) (s : State) :
    (State.setRecord i r s).periods = s.periods := rfl
@[simp] theorem State.setRecord_resetAsserted (i : Nat) (r : Record) (s : State) :
    (State.setRecord i r s).resetAsserted = s.resetAsserted := rfl
@[simp] theorem State.setRecord_ready (i : Nat) (r : Record) (s : State) :
    (State.setRecord i r s).ready = s.ready := rfl
@[simp] theorem State.setRecord_time (i : Nat) (r : Record) (s : State) : (State.setRecord i r s).time = s.time := rfl
@[simp] theorem State.setRecord_tb (i : Nat) (r : Record) (s : State) : (State.setRecord i r s).tb = s.tb := rfl
@[simp] theorem State.setRecord_nextEpoch (i : Nat) (r : Record) (s : State) :
    (State.setRecord i r s).nextEpoch = s.nextEpoch := rfl
@[simp] theorem State.setRecord_records (i : Nat) (r : Record) (s : State) :
    (State.setRecord i r s).records = s.records.set i r := rfl
@[simp] theorem State.setRecord_directory (i : Nat) (r : Record) (s : State) :
    (State.setRecord i r s).directory = s.directory := rfl
@[simp] theorem State.setRecord_fifo (i : Nat) (r : Record) (s : State) : (State.setRecord i r s).fifo = s.fifo := rfl
@[simp] theorem State.setRecord_handling (i : Nat) (r : Record) (s : State) :
    (State.setRecord i r s).handling = s.handling := rfl
@[simp] theorem State.setRecord_window (i : Nat) (r : Record) (s : State) :
    (State.setRecord i r s).window = s.window := rfl
@[simp] theorem State.setRecord_newest (i : Nat) (r : Record) (s : State) :
    (State.setRecord i r s).newest = s.newest := rfl
@[simp] theorem State.setRecord_run (i : Nat) (r : Record) (s : State) : (State.setRecord i r s).run = s.run := rfl
@[simp] theorem State.setRecord_settings (i : Nat) (r : Record) (s : State) :
    (State.setRecord i r s).settings = s.settings := rfl
@[simp] theorem State.setRecord_emission (i : Nat) (r : Record) (s : State) :
    (State.setRecord i r s).emission = s.emission := rfl
@[simp] theorem State.setRecord_counters (i : Nat) (r : Record) (s : State) :
    (State.setRecord i r s).counters = s.counters := rfl
@[simp] theorem State.setRecord_egress (i : Nat) (r : Record) (s : State) :
    (State.setRecord i r s).egress = s.egress := rfl
@[simp] theorem State.setRecord_transmitting (i : Nat) (r : Record) (s : State) :
    (State.setRecord i r s).transmitting = s.transmitting := rfl
@[simp] theorem State.setRecord_reception (i : Nat) (r : Record) (s : State) :
    (State.setRecord i r s).reception = s.reception := rfl
@[simp] theorem State.setRecord_queue (i : Nat) (r : Record) (s : State) :
    (State.setRecord i r s).queue = s.queue := rfl
@[simp] theorem State.setRecord_port (i : Nat) (r : Record) (s : State) : (State.setRecord i r s).port = s.port := rfl
@[simp] theorem State.setRecord_causes (i : Nat) (r : Record) (s : State) :
    (State.setRecord i r s).causes = s.causes := rfl
@[simp] theorem State.setRecord_mask (i : Nat) (r : Record) (s : State) : (State.setRecord i r s).mask = s.mask := rfl
@[simp] theorem State.setRecord_scanPtr (i : Nat) (r : Record) (s : State) :
    (State.setRecord i r s).scanPtr = s.scanPtr := rfl

/-! ### State.mapRecords -/

@[simp] theorem State.mapRecords_pending (f : Nat → Record → Record) (s : State) :
    (State.mapRecords f s).pending = s.pending := rfl
@[simp] theorem State.mapRecords_periods (f : Nat → Record → Record) (s : State) :
    (State.mapRecords f s).periods = s.periods := rfl
@[simp] theorem State.mapRecords_resetAsserted (f : Nat → Record → Record) (s : State) :
    (State.mapRecords f s).resetAsserted = s.resetAsserted := rfl
@[simp] theorem State.mapRecords_ready (f : Nat → Record → Record) (s : State) :
    (State.mapRecords f s).ready = s.ready := rfl
@[simp] theorem State.mapRecords_time (f : Nat → Record → Record) (s : State) :
    (State.mapRecords f s).time = s.time := rfl
@[simp] theorem State.mapRecords_tb (f : Nat → Record → Record) (s : State) : (State.mapRecords f s).tb = s.tb := rfl
@[simp] theorem State.mapRecords_nextEpoch (f : Nat → Record → Record) (s : State) :
    (State.mapRecords f s).nextEpoch = s.nextEpoch := rfl
@[simp] theorem State.mapRecords_records (f : Nat → Record → Record) (s : State) :
    (State.mapRecords f s).records = mapFrom f 0 s.records := rfl
@[simp] theorem State.mapRecords_directory (f : Nat → Record → Record) (s : State) :
    (State.mapRecords f s).directory = s.directory := rfl
@[simp] theorem State.mapRecords_fifo (f : Nat → Record → Record) (s : State) :
    (State.mapRecords f s).fifo = s.fifo := rfl
@[simp] theorem State.mapRecords_handling (f : Nat → Record → Record) (s : State) :
    (State.mapRecords f s).handling = s.handling := rfl
@[simp] theorem State.mapRecords_window (f : Nat → Record → Record) (s : State) :
    (State.mapRecords f s).window = s.window := rfl
@[simp] theorem State.mapRecords_newest (f : Nat → Record → Record) (s : State) :
    (State.mapRecords f s).newest = s.newest := rfl
@[simp] theorem State.mapRecords_run (f : Nat → Record → Record) (s : State) :
    (State.mapRecords f s).run = s.run := rfl
@[simp] theorem State.mapRecords_settings (f : Nat → Record → Record) (s : State) :
    (State.mapRecords f s).settings = s.settings := rfl
@[simp] theorem State.mapRecords_emission (f : Nat → Record → Record) (s : State) :
    (State.mapRecords f s).emission = s.emission := rfl
@[simp] theorem State.mapRecords_counters (f : Nat → Record → Record) (s : State) :
    (State.mapRecords f s).counters = s.counters := rfl
@[simp] theorem State.mapRecords_egress (f : Nat → Record → Record) (s : State) :
    (State.mapRecords f s).egress = s.egress := rfl
@[simp] theorem State.mapRecords_transmitting (f : Nat → Record → Record) (s : State) :
    (State.mapRecords f s).transmitting = s.transmitting := rfl
@[simp] theorem State.mapRecords_reception (f : Nat → Record → Record) (s : State) :
    (State.mapRecords f s).reception = s.reception := rfl
@[simp] theorem State.mapRecords_queue (f : Nat → Record → Record) (s : State) :
    (State.mapRecords f s).queue = s.queue := rfl
@[simp] theorem State.mapRecords_port (f : Nat → Record → Record) (s : State) :
    (State.mapRecords f s).port = s.port := rfl
@[simp] theorem State.mapRecords_causes (f : Nat → Record → Record) (s : State) :
    (State.mapRecords f s).causes = s.causes := rfl
@[simp] theorem State.mapRecords_mask (f : Nat → Record → Record) (s : State) :
    (State.mapRecords f s).mask = s.mask := rfl
@[simp] theorem State.mapRecords_scanPtr (f : Nat → Record → Record) (s : State) :
    (State.mapRecords f s).scanPtr = s.scanPtr := rfl

/-! ### State.answer -/

@[simp] theorem State.answer_pending (m : Message) (status : Status) (ret : ReturnFields) (s : State) :
    (State.answer m status ret s).pending = s.pending := rfl
@[simp] theorem State.answer_periods (m : Message) (status : Status) (ret : ReturnFields) (s : State) :
    (State.answer m status ret s).periods = s.periods := rfl
@[simp] theorem State.answer_resetAsserted (m : Message) (status : Status) (ret : ReturnFields) (s : State) :
    (State.answer m status ret s).resetAsserted = s.resetAsserted := rfl
@[simp] theorem State.answer_ready (m : Message) (status : Status) (ret : ReturnFields) (s : State) :
    (State.answer m status ret s).ready = s.ready := rfl
@[simp] theorem State.answer_time (m : Message) (status : Status) (ret : ReturnFields) (s : State) :
    (State.answer m status ret s).time = s.time := rfl
@[simp] theorem State.answer_tb (m : Message) (status : Status) (ret : ReturnFields) (s : State) :
    (State.answer m status ret s).tb = s.tb := rfl
@[simp] theorem State.answer_nextEpoch (m : Message) (status : Status) (ret : ReturnFields) (s : State) :
    (State.answer m status ret s).nextEpoch = s.nextEpoch := rfl
@[simp] theorem State.answer_records (m : Message) (status : Status) (ret : ReturnFields) (s : State) :
    (State.answer m status ret s).records = s.records := rfl
@[simp] theorem State.answer_directory (m : Message) (status : Status) (ret : ReturnFields) (s : State) :
    (State.answer m status ret s).directory = s.directory := rfl
@[simp] theorem State.answer_fifo (m : Message) (status : Status) (ret : ReturnFields) (s : State) :
    (State.answer m status ret s).fifo = s.fifo := rfl
@[simp] theorem State.answer_handling (m : Message) (status : Status) (ret : ReturnFields) (s : State) :
    (State.answer m status ret s).handling = s.handling := rfl
@[simp] theorem State.answer_window (m : Message) (status : Status) (ret : ReturnFields) (s : State) :
    (State.answer m status ret s).window = s.window := rfl
@[simp] theorem State.answer_newest (m : Message) (status : Status) (ret : ReturnFields) (s : State) :
    (State.answer m status ret s).newest = s.newest := rfl
@[simp] theorem State.answer_run (m : Message) (status : Status) (ret : ReturnFields) (s : State) :
    (State.answer m status ret s).run = s.run := rfl
@[simp] theorem State.answer_settings (m : Message) (status : Status) (ret : ReturnFields) (s : State) :
    (State.answer m status ret s).settings = s.settings := rfl
@[simp] theorem State.answer_emission (m : Message) (status : Status) (ret : ReturnFields) (s : State) :
    (State.answer m status ret s).emission = s.emission := rfl
@[simp] theorem State.answer_counters (m : Message) (status : Status) (ret : ReturnFields) (s : State) :
    (State.answer m status ret s).counters = s.counters := rfl
@[simp] theorem State.answer_egress (m : Message) (status : Status) (ret : ReturnFields) (s : State) :
    (State.answer m status ret s).egress = s.egress := rfl
@[simp] theorem State.answer_transmitting (m : Message) (status : Status) (ret : ReturnFields) (s : State) :
    (State.answer m status ret s).transmitting = s.transmitting := rfl
@[simp] theorem State.answer_reception (m : Message) (status : Status) (ret : ReturnFields) (s : State) :
    (State.answer m status ret s).reception = s.reception := rfl
@[simp] theorem State.answer_queue (m : Message) (status : Status) (ret : ReturnFields) (s : State) :
    (State.answer m status ret s).queue = s.queue := rfl
@[simp] theorem State.answer_port (m : Message) (status : Status) (ret : ReturnFields) (s : State) :
    (State.answer m status ret s).port = .answering { kind := m.kind, tag := m.tag, status, ret } := rfl
@[simp] theorem State.answer_causes (m : Message) (status : Status) (ret : ReturnFields) (s : State) :
    (State.answer m status ret s).causes = s.causes := rfl
@[simp] theorem State.answer_mask (m : Message) (status : Status) (ret : ReturnFields) (s : State) :
    (State.answer m status ret s).mask = s.mask := rfl
@[simp] theorem State.answer_scanPtr (m : Message) (status : Status) (ret : ReturnFields) (s : State) :
    (State.answer m status ret s).scanPtr = s.scanPtr := rfl

/-! ### State.countDropped -/

@[simp] theorem State.countDropped_pending (s : State) : (s.countDropped).pending = s.pending := rfl
@[simp] theorem State.countDropped_periods (s : State) : (s.countDropped).periods = s.periods := rfl
@[simp] theorem State.countDropped_resetAsserted (s : State) : (s.countDropped).resetAsserted = s.resetAsserted := rfl
@[simp] theorem State.countDropped_ready (s : State) : (s.countDropped).ready = s.ready := rfl
@[simp] theorem State.countDropped_time (s : State) : (s.countDropped).time = s.time := rfl
@[simp] theorem State.countDropped_tb (s : State) : (s.countDropped).tb = s.tb := rfl
@[simp] theorem State.countDropped_nextEpoch (s : State) : (s.countDropped).nextEpoch = s.nextEpoch := rfl
@[simp] theorem State.countDropped_records (s : State) : (s.countDropped).records = s.records := rfl
@[simp] theorem State.countDropped_directory (s : State) : (s.countDropped).directory = s.directory := rfl
@[simp] theorem State.countDropped_fifo (s : State) : (s.countDropped).fifo = s.fifo := rfl
@[simp] theorem State.countDropped_handling (s : State) : (s.countDropped).handling = s.handling := rfl
@[simp] theorem State.countDropped_window (s : State) : (s.countDropped).window = s.window := rfl
@[simp] theorem State.countDropped_newest (s : State) : (s.countDropped).newest = s.newest := rfl
@[simp] theorem State.countDropped_run (s : State) : (s.countDropped).run = s.run := rfl
@[simp] theorem State.countDropped_settings (s : State) : (s.countDropped).settings = s.settings := rfl
@[simp] theorem State.countDropped_emission (s : State) : (s.countDropped).emission = s.emission := rfl
@[simp] theorem State.countDropped_counters (s : State) :
    (s.countDropped).counters = { s.counters with dropped := satAdd s.counters.dropped 1 } := rfl
@[simp] theorem State.countDropped_egress (s : State) : (s.countDropped).egress = s.egress := rfl
@[simp] theorem State.countDropped_transmitting (s : State) : (s.countDropped).transmitting = s.transmitting := rfl
@[simp] theorem State.countDropped_reception (s : State) : (s.countDropped).reception = s.reception := rfl
@[simp] theorem State.countDropped_queue (s : State) : (s.countDropped).queue = s.queue := rfl
@[simp] theorem State.countDropped_port (s : State) : (s.countDropped).port = s.port := rfl
@[simp] theorem State.countDropped_causes (s : State) : (s.countDropped).causes = s.causes := rfl
@[simp] theorem State.countDropped_mask (s : State) : (s.countDropped).mask = s.mask := rfl
@[simp] theorem State.countDropped_scanPtr (s : State) : (s.countDropped).scanPtr = s.scanPtr := rfl

/-! ### State.countUnknown -/

@[simp] theorem State.countUnknown_pending (s : State) : (s.countUnknown).pending = s.pending := rfl
@[simp] theorem State.countUnknown_periods (s : State) : (s.countUnknown).periods = s.periods := rfl
@[simp] theorem State.countUnknown_resetAsserted (s : State) : (s.countUnknown).resetAsserted = s.resetAsserted := rfl
@[simp] theorem State.countUnknown_ready (s : State) : (s.countUnknown).ready = s.ready := rfl
@[simp] theorem State.countUnknown_time (s : State) : (s.countUnknown).time = s.time := rfl
@[simp] theorem State.countUnknown_tb (s : State) : (s.countUnknown).tb = s.tb := rfl
@[simp] theorem State.countUnknown_nextEpoch (s : State) : (s.countUnknown).nextEpoch = s.nextEpoch := rfl
@[simp] theorem State.countUnknown_records (s : State) : (s.countUnknown).records = s.records := rfl
@[simp] theorem State.countUnknown_directory (s : State) : (s.countUnknown).directory = s.directory := rfl
@[simp] theorem State.countUnknown_fifo (s : State) : (s.countUnknown).fifo = s.fifo := rfl
@[simp] theorem State.countUnknown_handling (s : State) : (s.countUnknown).handling = s.handling := rfl
@[simp] theorem State.countUnknown_window (s : State) : (s.countUnknown).window = s.window := rfl
@[simp] theorem State.countUnknown_newest (s : State) : (s.countUnknown).newest = s.newest := rfl
@[simp] theorem State.countUnknown_run (s : State) : (s.countUnknown).run = s.run := rfl
@[simp] theorem State.countUnknown_settings (s : State) : (s.countUnknown).settings = s.settings := rfl
@[simp] theorem State.countUnknown_emission (s : State) : (s.countUnknown).emission = s.emission := rfl
@[simp] theorem State.countUnknown_counters (s : State) :
    (s.countUnknown).counters = { s.counters with unknown := satAdd s.counters.unknown 1 } := rfl
@[simp] theorem State.countUnknown_egress (s : State) : (s.countUnknown).egress = s.egress := rfl
@[simp] theorem State.countUnknown_transmitting (s : State) : (s.countUnknown).transmitting = s.transmitting := rfl
@[simp] theorem State.countUnknown_reception (s : State) : (s.countUnknown).reception = s.reception := rfl
@[simp] theorem State.countUnknown_queue (s : State) : (s.countUnknown).queue = s.queue := rfl
@[simp] theorem State.countUnknown_port (s : State) : (s.countUnknown).port = s.port := rfl
@[simp] theorem State.countUnknown_causes (s : State) : (s.countUnknown).causes = s.causes := rfl
@[simp] theorem State.countUnknown_mask (s : State) : (s.countUnknown).mask = s.mask := rfl
@[simp] theorem State.countUnknown_scanPtr (s : State) : (s.countUnknown).scanPtr = s.scanPtr := rfl

/-! ### State.leaveActive -/

@[simp] theorem State.leaveActive_pending (i : Nat) (s : State) : (State.leaveActive i s).pending = s.pending := rfl
@[simp] theorem State.leaveActive_periods (i : Nat) (s : State) : (State.leaveActive i s).periods = s.periods := rfl
@[simp] theorem State.leaveActive_resetAsserted (i : Nat) (s : State) :
    (State.leaveActive i s).resetAsserted = s.resetAsserted := rfl
@[simp] theorem State.leaveActive_ready (i : Nat) (s : State) : (State.leaveActive i s).ready = s.ready := rfl
@[simp] theorem State.leaveActive_time (i : Nat) (s : State) : (State.leaveActive i s).time = s.time := rfl
@[simp] theorem State.leaveActive_tb (i : Nat) (s : State) : (State.leaveActive i s).tb = s.tb := rfl
@[simp] theorem State.leaveActive_nextEpoch (i : Nat) (s : State) :
    (State.leaveActive i s).nextEpoch = s.nextEpoch := rfl
@[simp] theorem State.leaveActive_records (i : Nat) (s : State) : (State.leaveActive i s).records = s.records := rfl
@[simp] theorem State.leaveActive_directory (i : Nat) (s : State) :
    (State.leaveActive i s).directory = s.directory := rfl
@[simp] theorem State.leaveActive_fifo (i : Nat) (s : State) : (State.leaveActive i s).fifo = s.fifo := rfl
@[simp] theorem State.leaveActive_handling (i : Nat) (s : State) :
    (State.leaveActive i s).handling = s.handling := rfl
@[simp] theorem State.leaveActive_window (i : Nat) (s : State) :
    (State.leaveActive i s).window = s.window.map (Slot.dropExpected i) := rfl
@[simp] theorem State.leaveActive_newest (i : Nat) (s : State) : (State.leaveActive i s).newest = s.newest := rfl
@[simp] theorem State.leaveActive_run (i : Nat) (s : State) : (State.leaveActive i s).run = s.run := rfl
@[simp] theorem State.leaveActive_settings (i : Nat) (s : State) :
    (State.leaveActive i s).settings = s.settings := rfl
@[simp] theorem State.leaveActive_emission (i : Nat) (s : State) :
    (State.leaveActive i s).emission = s.emission := rfl
@[simp] theorem State.leaveActive_counters (i : Nat) (s : State) :
    (State.leaveActive i s).counters = s.counters := rfl
@[simp] theorem State.leaveActive_egress (i : Nat) (s : State) : (State.leaveActive i s).egress = s.egress := rfl
@[simp] theorem State.leaveActive_transmitting (i : Nat) (s : State) :
    (State.leaveActive i s).transmitting = s.transmitting := rfl
@[simp] theorem State.leaveActive_reception (i : Nat) (s : State) :
    (State.leaveActive i s).reception = s.reception := rfl
@[simp] theorem State.leaveActive_queue (i : Nat) (s : State) : (State.leaveActive i s).queue = s.queue := rfl
@[simp] theorem State.leaveActive_port (i : Nat) (s : State) : (State.leaveActive i s).port = s.port := rfl
@[simp] theorem State.leaveActive_causes (i : Nat) (s : State) : (State.leaveActive i s).causes = s.causes := rfl
@[simp] theorem State.leaveActive_mask (i : Nat) (s : State) : (State.leaveActive i s).mask = s.mask := rfl
@[simp] theorem State.leaveActive_scanPtr (i : Nat) (s : State) : (State.leaveActive i s).scanPtr = s.scanPtr := rfl

/-! ### State.expireReached -/

@[simp] theorem State.expireReached_pending (s : State) : (s.expireReached).pending = s.pending := rfl
@[simp] theorem State.expireReached_periods (s : State) : (s.expireReached).periods = s.periods := rfl
@[simp] theorem State.expireReached_resetAsserted (s : State) :
    (s.expireReached).resetAsserted = s.resetAsserted := rfl
@[simp] theorem State.expireReached_ready (s : State) : (s.expireReached).ready = s.ready := rfl
@[simp] theorem State.expireReached_time (s : State) : (s.expireReached).time = s.time := rfl
@[simp] theorem State.expireReached_tb (s : State) : (s.expireReached).tb = s.tb := rfl
@[simp] theorem State.expireReached_nextEpoch (s : State) : (s.expireReached).nextEpoch = s.nextEpoch := rfl
@[simp] theorem State.expireReached_records (s : State) : (s.expireReached).records = s.records := rfl
@[simp] theorem State.expireReached_directory (s : State) : (s.expireReached).directory = s.directory := rfl
@[simp] theorem State.expireReached_fifo (s : State) : (s.expireReached).fifo = s.fifo := rfl
@[simp] theorem State.expireReached_handling (s : State) : (s.expireReached).handling = s.handling := rfl
@[simp] theorem State.expireReached_window (s : State) :
    (s.expireReached).window = s.window.map (Slot.expire s.time) := rfl
@[simp] theorem State.expireReached_newest (s : State) : (s.expireReached).newest = s.newest := rfl
@[simp] theorem State.expireReached_run (s : State) : (s.expireReached).run = s.run := rfl
@[simp] theorem State.expireReached_settings (s : State) : (s.expireReached).settings = s.settings := rfl
@[simp] theorem State.expireReached_emission (s : State) : (s.expireReached).emission = s.emission := rfl
@[simp] theorem State.expireReached_counters (s : State) : (s.expireReached).counters = s.counters := rfl
@[simp] theorem State.expireReached_egress (s : State) : (s.expireReached).egress = s.egress := rfl
@[simp] theorem State.expireReached_transmitting (s : State) : (s.expireReached).transmitting = s.transmitting := rfl
@[simp] theorem State.expireReached_reception (s : State) : (s.expireReached).reception = s.reception := rfl
@[simp] theorem State.expireReached_queue (s : State) : (s.expireReached).queue = s.queue := rfl
@[simp] theorem State.expireReached_port (s : State) : (s.expireReached).port = s.port := rfl
@[simp] theorem State.expireReached_causes (s : State) : (s.expireReached).causes = s.causes := rfl
@[simp] theorem State.expireReached_mask (s : State) : (s.expireReached).mask = s.mask := rfl
@[simp] theorem State.expireReached_scanPtr (s : State) : (s.expireReached).scanPtr = s.scanPtr := rfl

/-! ### State.placeEntry -/

@[simp] theorem State.placeEntry_pending (i : Nat) (r : Record) (al : Aligned) (s : State) :
    (State.placeEntry i r al s).pending = s.pending := rfl
@[simp] theorem State.placeEntry_periods (i : Nat) (r : Record) (al : Aligned) (s : State) :
    (State.placeEntry i r al s).periods = s.periods := rfl
@[simp] theorem State.placeEntry_resetAsserted (i : Nat) (r : Record) (al : Aligned) (s : State) :
    (State.placeEntry i r al s).resetAsserted = s.resetAsserted := rfl
@[simp] theorem State.placeEntry_ready (i : Nat) (r : Record) (al : Aligned) (s : State) :
    (State.placeEntry i r al s).ready = s.ready := rfl
@[simp] theorem State.placeEntry_time (i : Nat) (r : Record) (al : Aligned) (s : State) :
    (State.placeEntry i r al s).time = s.time := rfl
@[simp] theorem State.placeEntry_tb (i : Nat) (r : Record) (al : Aligned) (s : State) :
    (State.placeEntry i r al s).tb = s.tb := rfl
@[simp] theorem State.placeEntry_nextEpoch (i : Nat) (r : Record) (al : Aligned) (s : State) :
    (State.placeEntry i r al s).nextEpoch = s.nextEpoch := rfl
@[simp] theorem State.placeEntry_records (i : Nat) (r : Record) (al : Aligned) (s : State) :
    (State.placeEntry i r al s).records = s.records := rfl
@[simp] theorem State.placeEntry_directory (i : Nat) (r : Record) (al : Aligned) (s : State) :
    (State.placeEntry i r al s).directory = s.directory := rfl
@[simp] theorem State.placeEntry_fifo (i : Nat) (r : Record) (al : Aligned) (s : State) :
    (State.placeEntry i r al s).fifo = s.fifo := rfl
@[simp] theorem State.placeEntry_handling (i : Nat) (r : Record) (al : Aligned) (s : State) :
    (State.placeEntry i r al s).handling = s.handling := rfl
@[simp] theorem State.placeEntry_newest (i : Nat) (r : Record) (al : Aligned) (s : State) :
    (State.placeEntry i r al s).newest = s.newest := rfl
@[simp] theorem State.placeEntry_run (i : Nat) (r : Record) (al : Aligned) (s : State) :
    (State.placeEntry i r al s).run = s.run := rfl
@[simp] theorem State.placeEntry_settings (i : Nat) (r : Record) (al : Aligned) (s : State) :
    (State.placeEntry i r al s).settings = s.settings := rfl
@[simp] theorem State.placeEntry_emission (i : Nat) (r : Record) (al : Aligned) (s : State) :
    (State.placeEntry i r al s).emission = s.emission := rfl
@[simp] theorem State.placeEntry_counters (i : Nat) (r : Record) (al : Aligned) (s : State) :
    (State.placeEntry i r al s).counters = s.counters := rfl
@[simp] theorem State.placeEntry_egress (i : Nat) (r : Record) (al : Aligned) (s : State) :
    (State.placeEntry i r al s).egress = s.egress := rfl
@[simp] theorem State.placeEntry_transmitting (i : Nat) (r : Record) (al : Aligned) (s : State) :
    (State.placeEntry i r al s).transmitting = s.transmitting := rfl
@[simp] theorem State.placeEntry_reception (i : Nat) (r : Record) (al : Aligned) (s : State) :
    (State.placeEntry i r al s).reception = s.reception := rfl
@[simp] theorem State.placeEntry_queue (i : Nat) (r : Record) (al : Aligned) (s : State) :
    (State.placeEntry i r al s).queue = s.queue := rfl
@[simp] theorem State.placeEntry_port (i : Nat) (r : Record) (al : Aligned) (s : State) :
    (State.placeEntry i r al s).port = s.port := rfl
@[simp] theorem State.placeEntry_causes (i : Nat) (r : Record) (al : Aligned) (s : State) :
    (State.placeEntry i r al s).causes = s.causes := rfl
@[simp] theorem State.placeEntry_mask (i : Nat) (r : Record) (al : Aligned) (s : State) :
    (State.placeEntry i r al s).mask = s.mask := rfl
@[simp] theorem State.placeEntry_scanPtr (i : Nat) (r : Record) (al : Aligned) (s : State) :
    (State.placeEntry i r al s).scanPtr = s.scanPtr := rfl

/-! ### State.pushSlot -/

@[simp] theorem State.pushSlot_pending (e : Epoch) (s : State) : (State.pushSlot e s).pending = s.pending := rfl
@[simp] theorem State.pushSlot_periods (e : Epoch) (s : State) : (State.pushSlot e s).periods = s.periods := rfl
@[simp] theorem State.pushSlot_resetAsserted (e : Epoch) (s : State) :
    (State.pushSlot e s).resetAsserted = s.resetAsserted := rfl
@[simp] theorem State.pushSlot_ready (e : Epoch) (s : State) : (State.pushSlot e s).ready = s.ready := rfl
@[simp] theorem State.pushSlot_time (e : Epoch) (s : State) : (State.pushSlot e s).time = s.time := rfl
@[simp] theorem State.pushSlot_tb (e : Epoch) (s : State) : (State.pushSlot e s).tb = s.tb := rfl
@[simp] theorem State.pushSlot_nextEpoch (e : Epoch) (s : State) : (State.pushSlot e s).nextEpoch = s.nextEpoch := rfl
@[simp] theorem State.pushSlot_records (e : Epoch) (s : State) : (State.pushSlot e s).records = s.records := rfl
@[simp] theorem State.pushSlot_directory (e : Epoch) (s : State) : (State.pushSlot e s).directory = s.directory := rfl
@[simp] theorem State.pushSlot_fifo (e : Epoch) (s : State) : (State.pushSlot e s).fifo = s.fifo := rfl
@[simp] theorem State.pushSlot_handling (e : Epoch) (s : State) : (State.pushSlot e s).handling = s.handling := rfl
@[simp] theorem State.pushSlot_window (e : Epoch) (s : State) :
    (State.pushSlot e s).window = s.window ++ [(s.newSlot e).expire s.time] := rfl
@[simp] theorem State.pushSlot_newest (e : Epoch) (s : State) :
    (State.pushSlot e s).newest = some { epoch := e, wait := s.waitNow } := rfl
@[simp] theorem State.pushSlot_run (e : Epoch) (s : State) : (State.pushSlot e s).run = s.run := rfl
@[simp] theorem State.pushSlot_settings (e : Epoch) (s : State) : (State.pushSlot e s).settings = s.settings := rfl
@[simp] theorem State.pushSlot_emission (e : Epoch) (s : State) : (State.pushSlot e s).emission = s.emission := rfl
@[simp] theorem State.pushSlot_counters (e : Epoch) (s : State) : (State.pushSlot e s).counters = s.counters := rfl
@[simp] theorem State.pushSlot_egress (e : Epoch) (s : State) : (State.pushSlot e s).egress = s.egress := rfl
@[simp] theorem State.pushSlot_transmitting (e : Epoch) (s : State) :
    (State.pushSlot e s).transmitting = s.transmitting := rfl
@[simp] theorem State.pushSlot_reception (e : Epoch) (s : State) : (State.pushSlot e s).reception = s.reception := rfl
@[simp] theorem State.pushSlot_queue (e : Epoch) (s : State) : (State.pushSlot e s).queue = s.queue := rfl
@[simp] theorem State.pushSlot_port (e : Epoch) (s : State) : (State.pushSlot e s).port = s.port := rfl
@[simp] theorem State.pushSlot_causes (e : Epoch) (s : State) : (State.pushSlot e s).causes = s.causes := rfl
@[simp] theorem State.pushSlot_mask (e : Epoch) (s : State) : (State.pushSlot e s).mask = s.mask := rfl
@[simp] theorem State.pushSlot_scanPtr (e : Epoch) (s : State) : (State.pushSlot e s).scanPtr = s.scanPtr := rfl

/-! ### State.skipEpochs: what it leaves alone -/

@[simp] theorem State.skipEpochs_pending (n : Nat) (s : State) : (State.skipEpochs n s).pending = s.pending := by
  unfold State.skipEpochs; split <;> rfl
@[simp] theorem State.skipEpochs_periods (n : Nat) (s : State) : (State.skipEpochs n s).periods = s.periods := by
  unfold State.skipEpochs; split <;> rfl
@[simp] theorem State.skipEpochs_resetAsserted (n : Nat) (s : State) :
    (State.skipEpochs n s).resetAsserted = s.resetAsserted := by
  unfold State.skipEpochs; split <;> rfl
@[simp] theorem State.skipEpochs_ready (n : Nat) (s : State) : (State.skipEpochs n s).ready = s.ready := by
  unfold State.skipEpochs; split <;> rfl
@[simp] theorem State.skipEpochs_time (n : Nat) (s : State) : (State.skipEpochs n s).time = s.time := by
  unfold State.skipEpochs; split <;> rfl
@[simp] theorem State.skipEpochs_tb (n : Nat) (s : State) : (State.skipEpochs n s).tb = s.tb := by
  unfold State.skipEpochs; split <;> rfl
@[simp] theorem State.skipEpochs_nextEpoch (n : Nat) (s : State) :
    (State.skipEpochs n s).nextEpoch = s.nextEpoch := by
  unfold State.skipEpochs; split <;> rfl
@[simp] theorem State.skipEpochs_records (n : Nat) (s : State) : (State.skipEpochs n s).records = s.records := by
  unfold State.skipEpochs; split <;> rfl
@[simp] theorem State.skipEpochs_directory (n : Nat) (s : State) :
    (State.skipEpochs n s).directory = s.directory := by
  unfold State.skipEpochs; split <;> rfl
@[simp] theorem State.skipEpochs_fifo (n : Nat) (s : State) : (State.skipEpochs n s).fifo = s.fifo := by
  unfold State.skipEpochs; split <;> rfl
@[simp] theorem State.skipEpochs_handling (n : Nat) (s : State) : (State.skipEpochs n s).handling = s.handling := by
  unfold State.skipEpochs; split <;> rfl
@[simp] theorem State.skipEpochs_window (n : Nat) (s : State) : (State.skipEpochs n s).window = s.window := by
  unfold State.skipEpochs; split <;> rfl
@[simp] theorem State.skipEpochs_newest (n : Nat) (s : State) : (State.skipEpochs n s).newest = s.newest := by
  unfold State.skipEpochs; split <;> rfl
@[simp] theorem State.skipEpochs_run (n : Nat) (s : State) : (State.skipEpochs n s).run = s.run := by
  unfold State.skipEpochs; split <;> rfl
@[simp] theorem State.skipEpochs_settings (n : Nat) (s : State) : (State.skipEpochs n s).settings = s.settings := by
  unfold State.skipEpochs; split <;> rfl
@[simp] theorem State.skipEpochs_emission (n : Nat) (s : State) : (State.skipEpochs n s).emission = s.emission := by
  unfold State.skipEpochs; split <;> rfl
@[simp] theorem State.skipEpochs_egress (n : Nat) (s : State) : (State.skipEpochs n s).egress = s.egress := by
  unfold State.skipEpochs; split <;> rfl
@[simp] theorem State.skipEpochs_transmitting (n : Nat) (s : State) :
    (State.skipEpochs n s).transmitting = s.transmitting := by
  unfold State.skipEpochs; split <;> rfl
@[simp] theorem State.skipEpochs_reception (n : Nat) (s : State) :
    (State.skipEpochs n s).reception = s.reception := by
  unfold State.skipEpochs; split <;> rfl
@[simp] theorem State.skipEpochs_queue (n : Nat) (s : State) : (State.skipEpochs n s).queue = s.queue := by
  unfold State.skipEpochs; split <;> rfl
@[simp] theorem State.skipEpochs_port (n : Nat) (s : State) : (State.skipEpochs n s).port = s.port := by
  unfold State.skipEpochs; split <;> rfl
@[simp] theorem State.skipEpochs_mask (n : Nat) (s : State) : (State.skipEpochs n s).mask = s.mask := by
  unfold State.skipEpochs; split <;> rfl
@[simp] theorem State.skipEpochs_scanPtr (n : Nat) (s : State) : (State.skipEpochs n s).scanPtr = s.scanPtr := by
  unfold State.skipEpochs; split <;> rfl

/-! ### State.setTimebase: what it leaves alone -/

@[simp] theorem State.setTimebase_pending (b : Timebase) (s : State) :
    (State.setTimebase b s).pending = s.pending := by
  unfold State.setTimebase; split <;> rfl
@[simp] theorem State.setTimebase_periods (b : Timebase) (s : State) :
    (State.setTimebase b s).periods = s.periods := by
  unfold State.setTimebase; split <;> rfl
@[simp] theorem State.setTimebase_resetAsserted (b : Timebase) (s : State) :
    (State.setTimebase b s).resetAsserted = s.resetAsserted := by
  unfold State.setTimebase; split <;> rfl
@[simp] theorem State.setTimebase_ready (b : Timebase) (s : State) : (State.setTimebase b s).ready = s.ready := by
  unfold State.setTimebase; split <;> rfl
@[simp] theorem State.setTimebase_time (b : Timebase) (s : State) : (State.setTimebase b s).time = s.time := by
  unfold State.setTimebase; split <;> rfl
@[simp] theorem State.setTimebase_nextEpoch (b : Timebase) (s : State) :
    (State.setTimebase b s).nextEpoch = s.nextEpoch := by
  unfold State.setTimebase; split <;> rfl
@[simp] theorem State.setTimebase_records (b : Timebase) (s : State) :
    (State.setTimebase b s).records = s.records := by
  unfold State.setTimebase; split <;> rfl
@[simp] theorem State.setTimebase_directory (b : Timebase) (s : State) :
    (State.setTimebase b s).directory = s.directory := by
  unfold State.setTimebase; split <;> rfl
@[simp] theorem State.setTimebase_fifo (b : Timebase) (s : State) : (State.setTimebase b s).fifo = s.fifo := by
  unfold State.setTimebase; split <;> rfl
@[simp] theorem State.setTimebase_handling (b : Timebase) (s : State) :
    (State.setTimebase b s).handling = s.handling := by
  unfold State.setTimebase; split <;> rfl
@[simp] theorem State.setTimebase_window (b : Timebase) (s : State) : (State.setTimebase b s).window = s.window := by
  unfold State.setTimebase; split <;> rfl
@[simp] theorem State.setTimebase_newest (b : Timebase) (s : State) : (State.setTimebase b s).newest = s.newest := by
  unfold State.setTimebase; split <;> rfl
@[simp] theorem State.setTimebase_run (b : Timebase) (s : State) : (State.setTimebase b s).run = s.run := by
  unfold State.setTimebase; split <;> rfl
@[simp] theorem State.setTimebase_settings (b : Timebase) (s : State) :
    (State.setTimebase b s).settings = s.settings := by
  unfold State.setTimebase; split <;> rfl
@[simp] theorem State.setTimebase_emission (b : Timebase) (s : State) :
    (State.setTimebase b s).emission = s.emission := by
  unfold State.setTimebase; split <;> rfl
@[simp] theorem State.setTimebase_counters (b : Timebase) (s : State) :
    (State.setTimebase b s).counters = s.counters := by
  unfold State.setTimebase; split <;> rfl
@[simp] theorem State.setTimebase_egress (b : Timebase) (s : State) : (State.setTimebase b s).egress = s.egress := by
  unfold State.setTimebase; split <;> rfl
@[simp] theorem State.setTimebase_transmitting (b : Timebase) (s : State) :
    (State.setTimebase b s).transmitting = s.transmitting := by
  unfold State.setTimebase; split <;> rfl
@[simp] theorem State.setTimebase_reception (b : Timebase) (s : State) :
    (State.setTimebase b s).reception = s.reception := by
  unfold State.setTimebase; split <;> rfl
@[simp] theorem State.setTimebase_queue (b : Timebase) (s : State) : (State.setTimebase b s).queue = s.queue := by
  unfold State.setTimebase; split <;> rfl
@[simp] theorem State.setTimebase_port (b : Timebase) (s : State) : (State.setTimebase b s).port = s.port := by
  unfold State.setTimebase; split <;> rfl
@[simp] theorem State.setTimebase_mask (b : Timebase) (s : State) : (State.setTimebase b s).mask = s.mask := by
  unfold State.setTimebase; split <;> rfl
@[simp] theorem State.setTimebase_scanPtr (b : Timebase) (s : State) :
    (State.setTimebase b s).scanPtr = s.scanPtr := by
  unfold State.setTimebase; split <;> rfl

/-! ### State.beginEmission: what it leaves alone -/

@[simp] theorem State.beginEmission_pending (s : State) : (s.beginEmission).pending = s.pending := by
  unfold State.beginEmission; split; · rfl
  · split <;> rfl
@[simp] theorem State.beginEmission_periods (s : State) : (s.beginEmission).periods = s.periods := by
  unfold State.beginEmission; split; · rfl
  · split <;> rfl
@[simp] theorem State.beginEmission_resetAsserted (s : State) :
    (s.beginEmission).resetAsserted = s.resetAsserted := by
  unfold State.beginEmission; split; · rfl
  · split <;> rfl
@[simp] theorem State.beginEmission_ready (s : State) : (s.beginEmission).ready = s.ready := by
  unfold State.beginEmission; split; · rfl
  · split <;> rfl
@[simp] theorem State.beginEmission_time (s : State) : (s.beginEmission).time = s.time := by
  unfold State.beginEmission; split; · rfl
  · split <;> rfl
@[simp] theorem State.beginEmission_tb (s : State) : (s.beginEmission).tb = s.tb := by
  unfold State.beginEmission; split; · rfl
  · split <;> rfl
@[simp] theorem State.beginEmission_nextEpoch (s : State) : (s.beginEmission).nextEpoch = s.nextEpoch := by
  unfold State.beginEmission; split; · rfl
  · split <;> rfl
@[simp] theorem State.beginEmission_directory (s : State) : (s.beginEmission).directory = s.directory := by
  unfold State.beginEmission; split; · rfl
  · split <;> rfl
@[simp] theorem State.beginEmission_fifo (s : State) : (s.beginEmission).fifo = s.fifo := by
  unfold State.beginEmission; split; · rfl
  · split <;> rfl
@[simp] theorem State.beginEmission_handling (s : State) : (s.beginEmission).handling = s.handling := by
  unfold State.beginEmission; split; · rfl
  · split <;> rfl
@[simp] theorem State.beginEmission_newest (s : State) : (s.beginEmission).newest = s.newest := by
  unfold State.beginEmission; split; · rfl
  · split <;> rfl
@[simp] theorem State.beginEmission_run (s : State) : (s.beginEmission).run = s.run := by
  unfold State.beginEmission; split; · rfl
  · split <;> rfl
@[simp] theorem State.beginEmission_settings (s : State) : (s.beginEmission).settings = s.settings := by
  unfold State.beginEmission; split; · rfl
  · split <;> rfl
@[simp] theorem State.beginEmission_counters (s : State) : (s.beginEmission).counters = s.counters := by
  unfold State.beginEmission; split; · rfl
  · split <;> rfl
@[simp] theorem State.beginEmission_egress (s : State) : (s.beginEmission).egress = s.egress := by
  unfold State.beginEmission; split; · rfl
  · split <;> rfl
@[simp] theorem State.beginEmission_transmitting (s : State) : (s.beginEmission).transmitting = s.transmitting := by
  unfold State.beginEmission; split; · rfl
  · split <;> rfl
@[simp] theorem State.beginEmission_reception (s : State) : (s.beginEmission).reception = s.reception := by
  unfold State.beginEmission; split; · rfl
  · split <;> rfl
@[simp] theorem State.beginEmission_queue (s : State) : (s.beginEmission).queue = s.queue := by
  unfold State.beginEmission; split; · rfl
  · split <;> rfl
@[simp] theorem State.beginEmission_port (s : State) : (s.beginEmission).port = s.port := by
  unfold State.beginEmission; split; · rfl
  · split <;> rfl
@[simp] theorem State.beginEmission_causes (s : State) : (s.beginEmission).causes = s.causes := by
  unfold State.beginEmission; split; · rfl
  · split <;> rfl
@[simp] theorem State.beginEmission_mask (s : State) : (s.beginEmission).mask = s.mask := by
  unfold State.beginEmission; split; · rfl
  · split <;> rfl
@[simp] theorem State.beginEmission_scanPtr (s : State) : (s.beginEmission).scanPtr = s.scanPtr := by
  unfold State.beginEmission; split; · rfl
  · split <;> rfl

/-! ### State.beginTransmission: what it leaves alone -/

@[simp] theorem State.beginTransmission_pending (s : State) : (s.beginTransmission).pending = s.pending := by
  unfold State.beginTransmission; split <;> rfl
@[simp] theorem State.beginTransmission_periods (s : State) : (s.beginTransmission).periods = s.periods := by
  unfold State.beginTransmission; split <;> rfl
@[simp] theorem State.beginTransmission_resetAsserted (s : State) :
    (s.beginTransmission).resetAsserted = s.resetAsserted := by
  unfold State.beginTransmission; split <;> rfl
@[simp] theorem State.beginTransmission_ready (s : State) : (s.beginTransmission).ready = s.ready := by
  unfold State.beginTransmission; split <;> rfl
@[simp] theorem State.beginTransmission_time (s : State) : (s.beginTransmission).time = s.time := by
  unfold State.beginTransmission; split <;> rfl
@[simp] theorem State.beginTransmission_tb (s : State) : (s.beginTransmission).tb = s.tb := by
  unfold State.beginTransmission; split <;> rfl
@[simp] theorem State.beginTransmission_nextEpoch (s : State) : (s.beginTransmission).nextEpoch = s.nextEpoch := by
  unfold State.beginTransmission; split <;> rfl
@[simp] theorem State.beginTransmission_records (s : State) : (s.beginTransmission).records = s.records := by
  unfold State.beginTransmission; split <;> rfl
@[simp] theorem State.beginTransmission_directory (s : State) : (s.beginTransmission).directory = s.directory := by
  unfold State.beginTransmission; split <;> rfl
@[simp] theorem State.beginTransmission_fifo (s : State) : (s.beginTransmission).fifo = s.fifo := by
  unfold State.beginTransmission; split <;> rfl
@[simp] theorem State.beginTransmission_handling (s : State) : (s.beginTransmission).handling = s.handling := by
  unfold State.beginTransmission; split <;> rfl
@[simp] theorem State.beginTransmission_window (s : State) : (s.beginTransmission).window = s.window := by
  unfold State.beginTransmission; split <;> rfl
@[simp] theorem State.beginTransmission_newest (s : State) : (s.beginTransmission).newest = s.newest := by
  unfold State.beginTransmission; split <;> rfl
@[simp] theorem State.beginTransmission_run (s : State) : (s.beginTransmission).run = s.run := by
  unfold State.beginTransmission; split <;> rfl
@[simp] theorem State.beginTransmission_settings (s : State) : (s.beginTransmission).settings = s.settings := by
  unfold State.beginTransmission; split <;> rfl
@[simp] theorem State.beginTransmission_emission (s : State) : (s.beginTransmission).emission = s.emission := by
  unfold State.beginTransmission; split <;> rfl
@[simp] theorem State.beginTransmission_counters (s : State) : (s.beginTransmission).counters = s.counters := by
  unfold State.beginTransmission; split <;> rfl
@[simp] theorem State.beginTransmission_egress (s : State) : (s.beginTransmission).egress = s.egress := by
  unfold State.beginTransmission; split <;> rfl
@[simp] theorem State.beginTransmission_reception (s : State) : (s.beginTransmission).reception = s.reception := by
  unfold State.beginTransmission; split <;> rfl
@[simp] theorem State.beginTransmission_queue (s : State) : (s.beginTransmission).queue = s.queue := by
  unfold State.beginTransmission; split <;> rfl
@[simp] theorem State.beginTransmission_port (s : State) : (s.beginTransmission).port = s.port := by
  unfold State.beginTransmission; split <;> rfl
@[simp] theorem State.beginTransmission_causes (s : State) : (s.beginTransmission).causes = s.causes := by
  unfold State.beginTransmission; split <;> rfl
@[simp] theorem State.beginTransmission_mask (s : State) : (s.beginTransmission).mask = s.mask := by
  unfold State.beginTransmission; split <;> rfl
@[simp] theorem State.beginTransmission_scanPtr (s : State) : (s.beginTransmission).scanPtr = s.scanPtr := by
  unfold State.beginTransmission; split <;> rfl

/-! ### State.takeFrame: what it leaves alone -/

@[simp] theorem State.takeFrame_pending (s : State) : (s.takeFrame).pending = s.pending := by
  unfold State.takeFrame; split; · rfl
  · split <;> rfl
@[simp] theorem State.takeFrame_periods (s : State) : (s.takeFrame).periods = s.periods := by
  unfold State.takeFrame; split; · rfl
  · split <;> rfl
@[simp] theorem State.takeFrame_resetAsserted (s : State) : (s.takeFrame).resetAsserted = s.resetAsserted := by
  unfold State.takeFrame; split; · rfl
  · split <;> rfl
@[simp] theorem State.takeFrame_ready (s : State) : (s.takeFrame).ready = s.ready := by
  unfold State.takeFrame; split; · rfl
  · split <;> rfl
@[simp] theorem State.takeFrame_time (s : State) : (s.takeFrame).time = s.time := by
  unfold State.takeFrame; split; · rfl
  · split <;> rfl
@[simp] theorem State.takeFrame_tb (s : State) : (s.takeFrame).tb = s.tb := by
  unfold State.takeFrame; split; · rfl
  · split <;> rfl
@[simp] theorem State.takeFrame_nextEpoch (s : State) : (s.takeFrame).nextEpoch = s.nextEpoch := by
  unfold State.takeFrame; split; · rfl
  · split <;> rfl
@[simp] theorem State.takeFrame_records (s : State) : (s.takeFrame).records = s.records := by
  unfold State.takeFrame; split; · rfl
  · split <;> rfl
@[simp] theorem State.takeFrame_directory (s : State) : (s.takeFrame).directory = s.directory := by
  unfold State.takeFrame; split; · rfl
  · split <;> rfl
@[simp] theorem State.takeFrame_window (s : State) : (s.takeFrame).window = s.window := by
  unfold State.takeFrame; split; · rfl
  · split <;> rfl
@[simp] theorem State.takeFrame_newest (s : State) : (s.takeFrame).newest = s.newest := by
  unfold State.takeFrame; split; · rfl
  · split <;> rfl
@[simp] theorem State.takeFrame_run (s : State) : (s.takeFrame).run = s.run := by
  unfold State.takeFrame; split; · rfl
  · split <;> rfl
@[simp] theorem State.takeFrame_settings (s : State) : (s.takeFrame).settings = s.settings := by
  unfold State.takeFrame; split; · rfl
  · split <;> rfl
@[simp] theorem State.takeFrame_emission (s : State) : (s.takeFrame).emission = s.emission := by
  unfold State.takeFrame; split; · rfl
  · split <;> rfl
@[simp] theorem State.takeFrame_counters (s : State) : (s.takeFrame).counters = s.counters := by
  unfold State.takeFrame; split; · rfl
  · split <;> rfl
@[simp] theorem State.takeFrame_egress (s : State) : (s.takeFrame).egress = s.egress := by
  unfold State.takeFrame; split; · rfl
  · split <;> rfl
@[simp] theorem State.takeFrame_transmitting (s : State) : (s.takeFrame).transmitting = s.transmitting := by
  unfold State.takeFrame; split; · rfl
  · split <;> rfl
@[simp] theorem State.takeFrame_reception (s : State) : (s.takeFrame).reception = s.reception := by
  unfold State.takeFrame; split; · rfl
  · split <;> rfl
@[simp] theorem State.takeFrame_queue (s : State) : (s.takeFrame).queue = s.queue := by
  unfold State.takeFrame; split; · rfl
  · split <;> rfl
@[simp] theorem State.takeFrame_port (s : State) : (s.takeFrame).port = s.port := by
  unfold State.takeFrame; split; · rfl
  · split <;> rfl
@[simp] theorem State.takeFrame_causes (s : State) : (s.takeFrame).causes = s.causes := by
  unfold State.takeFrame; split; · rfl
  · split <;> rfl
@[simp] theorem State.takeFrame_mask (s : State) : (s.takeFrame).mask = s.mask := by
  unfold State.takeFrame; split; · rfl
  · split <;> rfl
@[simp] theorem State.takeFrame_scanPtr (s : State) : (s.takeFrame).scanPtr = s.scanPtr := by
  unfold State.takeFrame; split; · rfl
  · split <;> rfl

/-! ### State.endDrain: what it leaves alone -/

@[simp] theorem State.endDrain_pending (s : State) : (s.endDrain).pending = s.pending := by
  unfold State.endDrain; split <;> rfl
@[simp] theorem State.endDrain_periods (s : State) : (s.endDrain).periods = s.periods := by
  unfold State.endDrain; split <;> rfl
@[simp] theorem State.endDrain_resetAsserted (s : State) : (s.endDrain).resetAsserted = s.resetAsserted := by
  unfold State.endDrain; split <;> rfl
@[simp] theorem State.endDrain_ready (s : State) : (s.endDrain).ready = s.ready := by
  unfold State.endDrain; split <;> rfl
@[simp] theorem State.endDrain_time (s : State) : (s.endDrain).time = s.time := by
  unfold State.endDrain; split <;> rfl
@[simp] theorem State.endDrain_tb (s : State) : (s.endDrain).tb = s.tb := by
  unfold State.endDrain; split <;> rfl
@[simp] theorem State.endDrain_nextEpoch (s : State) : (s.endDrain).nextEpoch = s.nextEpoch := by
  unfold State.endDrain; split <;> rfl
@[simp] theorem State.endDrain_records (s : State) : (s.endDrain).records = s.records := by
  unfold State.endDrain; split <;> rfl
@[simp] theorem State.endDrain_directory (s : State) : (s.endDrain).directory = s.directory := by
  unfold State.endDrain; split <;> rfl
@[simp] theorem State.endDrain_fifo (s : State) : (s.endDrain).fifo = s.fifo := by
  unfold State.endDrain; split <;> rfl
@[simp] theorem State.endDrain_handling (s : State) : (s.endDrain).handling = s.handling := by
  unfold State.endDrain; split <;> rfl
@[simp] theorem State.endDrain_window (s : State) : (s.endDrain).window = s.window := by
  unfold State.endDrain; split <;> rfl
@[simp] theorem State.endDrain_newest (s : State) : (s.endDrain).newest = s.newest := by
  unfold State.endDrain; split <;> rfl
@[simp] theorem State.endDrain_settings (s : State) : (s.endDrain).settings = s.settings := by
  unfold State.endDrain; split <;> rfl
@[simp] theorem State.endDrain_emission (s : State) : (s.endDrain).emission = s.emission := by
  unfold State.endDrain; split <;> rfl
@[simp] theorem State.endDrain_counters (s : State) : (s.endDrain).counters = s.counters := by
  unfold State.endDrain; split <;> rfl
@[simp] theorem State.endDrain_egress (s : State) : (s.endDrain).egress = s.egress := by
  unfold State.endDrain; split <;> rfl
@[simp] theorem State.endDrain_transmitting (s : State) : (s.endDrain).transmitting = s.transmitting := by
  unfold State.endDrain; split <;> rfl
@[simp] theorem State.endDrain_reception (s : State) : (s.endDrain).reception = s.reception := by
  unfold State.endDrain; split <;> rfl
@[simp] theorem State.endDrain_queue (s : State) : (s.endDrain).queue = s.queue := by
  unfold State.endDrain; split <;> rfl
@[simp] theorem State.endDrain_port (s : State) : (s.endDrain).port = s.port := by
  unfold State.endDrain; split <;> rfl
@[simp] theorem State.endDrain_mask (s : State) : (s.endDrain).mask = s.mask := by
  unfold State.endDrain; split <;> rfl
@[simp] theorem State.endDrain_scanPtr (s : State) : (s.endDrain).scanPtr = s.scanPtr := by
  unfold State.endDrain; split <;> rfl

/-! ### State.moveRecord: what it leaves alone -/

@[simp] theorem State.moveRecord_pending (i : Nat) (r : Record) (s : State) :
    (State.moveRecord i r s).pending = s.pending := by
  unfold State.moveRecord; split <;> simp
@[simp] theorem State.moveRecord_periods (i : Nat) (r : Record) (s : State) :
    (State.moveRecord i r s).periods = s.periods := by
  unfold State.moveRecord; split <;> simp
@[simp] theorem State.moveRecord_resetAsserted (i : Nat) (r : Record) (s : State) :
    (State.moveRecord i r s).resetAsserted = s.resetAsserted := by
  unfold State.moveRecord; split <;> simp
@[simp] theorem State.moveRecord_ready (i : Nat) (r : Record) (s : State) :
    (State.moveRecord i r s).ready = s.ready := by
  unfold State.moveRecord; split <;> simp
@[simp] theorem State.moveRecord_time (i : Nat) (r : Record) (s : State) :
    (State.moveRecord i r s).time = s.time := by
  unfold State.moveRecord; split <;> simp
@[simp] theorem State.moveRecord_tb (i : Nat) (r : Record) (s : State) : (State.moveRecord i r s).tb = s.tb := by
  unfold State.moveRecord; split <;> simp
@[simp] theorem State.moveRecord_nextEpoch (i : Nat) (r : Record) (s : State) :
    (State.moveRecord i r s).nextEpoch = s.nextEpoch := by
  unfold State.moveRecord; split <;> simp
@[simp] theorem State.moveRecord_directory (i : Nat) (r : Record) (s : State) :
    (State.moveRecord i r s).directory = s.directory := by
  unfold State.moveRecord; split <;> simp
@[simp] theorem State.moveRecord_fifo (i : Nat) (r : Record) (s : State) :
    (State.moveRecord i r s).fifo = s.fifo := by
  unfold State.moveRecord; split <;> simp
@[simp] theorem State.moveRecord_handling (i : Nat) (r : Record) (s : State) :
    (State.moveRecord i r s).handling = s.handling := by
  unfold State.moveRecord; split <;> simp
@[simp] theorem State.moveRecord_newest (i : Nat) (r : Record) (s : State) :
    (State.moveRecord i r s).newest = s.newest := by
  unfold State.moveRecord; split <;> simp
@[simp] theorem State.moveRecord_run (i : Nat) (r : Record) (s : State) : (State.moveRecord i r s).run = s.run := by
  unfold State.moveRecord; split <;> simp
@[simp] theorem State.moveRecord_settings (i : Nat) (r : Record) (s : State) :
    (State.moveRecord i r s).settings = s.settings := by
  unfold State.moveRecord; split <;> simp
@[simp] theorem State.moveRecord_counters (i : Nat) (r : Record) (s : State) :
    (State.moveRecord i r s).counters = s.counters := by
  unfold State.moveRecord; split <;> simp
@[simp] theorem State.moveRecord_egress (i : Nat) (r : Record) (s : State) :
    (State.moveRecord i r s).egress = s.egress := by
  unfold State.moveRecord; split <;> simp
@[simp] theorem State.moveRecord_transmitting (i : Nat) (r : Record) (s : State) :
    (State.moveRecord i r s).transmitting = s.transmitting := by
  unfold State.moveRecord; split <;> simp
@[simp] theorem State.moveRecord_reception (i : Nat) (r : Record) (s : State) :
    (State.moveRecord i r s).reception = s.reception := by
  unfold State.moveRecord; split <;> simp
@[simp] theorem State.moveRecord_queue (i : Nat) (r : Record) (s : State) :
    (State.moveRecord i r s).queue = s.queue := by
  unfold State.moveRecord; split <;> simp
@[simp] theorem State.moveRecord_port (i : Nat) (r : Record) (s : State) :
    (State.moveRecord i r s).port = s.port := by
  unfold State.moveRecord; split <;> simp
@[simp] theorem State.moveRecord_causes (i : Nat) (r : Record) (s : State) :
    (State.moveRecord i r s).causes = s.causes := by
  unfold State.moveRecord; split <;> simp
@[simp] theorem State.moveRecord_mask (i : Nat) (r : Record) (s : State) :
    (State.moveRecord i r s).mask = s.mask := by
  unfold State.moveRecord; split <;> simp
@[simp] theorem State.moveRecord_scanPtr (i : Nat) (r : Record) (s : State) :
    (State.moveRecord i r s).scanPtr = s.scanPtr := by
  unfold State.moveRecord; split <;> simp

/-! ### State.setTimebase: what it writes -/

@[simp] theorem State.setTimebase_tb (b : Timebase) (s : State) : (State.setTimebase b s).tb = b := by
  unfold State.setTimebase; split <;> rfl

theorem State.setTimebase_same {b : Timebase} {s : State} (h : b.state = s.tb.state) :
    State.setTimebase b s = { s with tb := b } := if_pos h

theorem State.setTimebase_moved {b : Timebase} {s : State} (h : b.state ≠ s.tb.state) :
    State.setTimebase b s = { s with tb := b, causes := s.causes ||| EngineCause.tbState } := if_neg h

/-! ### Timebase.applyStaged and Timebase.capture -/

@[simp] theorem Timebase.applyStaged_state (b : Timebase) : b.applyStaged.state = b.state := rfl
@[simp] theorem Timebase.applyStaged_good (b : Timebase) : b.applyStaged.good = b.good := rfl
@[simp] theorem Timebase.applyStaged_bad (b : Timebase) : b.applyStaged.bad = b.bad := rfl
@[simp] theorem Timebase.applyStaged_prevCapture (b : Timebase) : b.applyStaged.prevCapture = b.prevCapture := rfl
@[simp] theorem Timebase.applyStaged_sinceCapture (b : Timebase) : b.applyStaged.sinceCapture = b.sinceCapture := rfl
@[simp] theorem Timebase.applyStaged_inHoldover (b : Timebase) : b.applyStaged.inHoldover = b.inHoldover := rfl
@[simp] theorem Timebase.applyStaged_armed (b : Timebase) : b.applyStaged.armed = b.armed := rfl

@[simp] theorem Timebase.applyStaged_staged (b : Timebase) :
    b.applyStaged.staged = { tolerance := none, stepLimit := none, holdoverLimit := none } := rfl

@[simp] theorem Timebase.capture_state (t : LocalTime) (b : Timebase) : (Timebase.capture t b).state = b.state := rfl
@[simp] theorem Timebase.capture_good (t : LocalTime) (b : Timebase) : (Timebase.capture t b).good = b.good := rfl
@[simp] theorem Timebase.capture_bad (t : LocalTime) (b : Timebase) : (Timebase.capture t b).bad = b.bad := rfl
@[simp] theorem Timebase.capture_inHoldover (t : LocalTime) (b : Timebase) :
    (Timebase.capture t b).inHoldover = b.inHoldover := rfl
@[simp] theorem Timebase.capture_inForce (t : LocalTime) (b : Timebase) :
    (Timebase.capture t b).inForce = b.inForce := rfl
@[simp] theorem Timebase.capture_staged (t : LocalTime) (b : Timebase) :
    (Timebase.capture t b).staged = b.staged := rfl
@[simp] theorem Timebase.capture_armed (t : LocalTime) (b : Timebase) : (Timebase.capture t b).armed = b.armed := rfl

@[simp] theorem Timebase.stepTarget_applyStaged (b : Timebase) (t : LocalTime) :
    b.applyStaged.stepTarget t = b.stepTarget t := rfl

/-! ### Records: what raising a cause and counting leave alone -/

@[simp] theorem Record.raise_state (c : CauseSet) (r : Record) : (Record.raise c r).state = r.state := rfl
@[simp] theorem Record.raise_streamId (c : CauseSet) (r : Record) : (Record.raise c r).streamId = r.streamId := rfl
@[simp] theorem Record.raise_cls (c : CauseSet) (r : Record) : (Record.raise c r).cls = r.cls := rfl
@[simp] theorem Record.raise_rs (c : CauseSet) (r : Record) : (Record.raise c r).rs = r.rs := rfl
@[simp] theorem Record.raise_tb (c : CauseSet) (r : Record) : (Record.raise c r).tb = r.tb := rfl
@[simp] theorem Record.raise_p (c : CauseSet) (r : Record) : (Record.raise c r).p = r.p := rfl
@[simp] theorem Record.raise_a (c : CauseSet) (r : Record) : (Record.raise c r).a = r.a := rfl
@[simp] theorem Record.raise_opts (c : CauseSet) (r : Record) : (Record.raise c r).opts = r.opts := rfl
@[simp] theorem Record.raise_amend (c : CauseSet) (r : Record) : (Record.raise c r).amend = r.amend := rfl
@[simp] theorem Record.raise_history (c : CauseSet) (r : Record) : (Record.raise c r).history = r.history := rfl
@[simp] theorem Record.raise_filtered (c : CauseSet) (r : Record) : (Record.raise c r).filtered = r.filtered := rfl
@[simp] theorem Record.raise_clock (c : CauseSet) (r : Record) : (Record.raise c r).clock = r.clock := rfl
@[simp] theorem Record.raise_disagree (c : CauseSet) (r : Record) : (Record.raise c r).disagree = r.disagree := rfl
@[simp] theorem Record.raise_silence (c : CauseSet) (r : Record) : (Record.raise c r).silence = r.silence := rfl
@[simp] theorem Record.raise_recovery (c : CauseSet) (r : Record) : (Record.raise c r).recovery = r.recovery := rfl
@[simp] theorem Record.raise_held (c : CauseSet) (r : Record) : (Record.raise c r).held = r.held := rfl
@[simp] theorem Record.raise_counters (c : CauseSet) (r : Record) : (Record.raise c r).counters = r.counters := rfl
@[simp] theorem Record.raise_causes (c : CauseSet) (r : Record) : (Record.raise c r).causes = r.causes ||| c := rfl

@[simp] theorem Record.count_state (w : RecCounter) (r : Record) : (Record.count w r).state = r.state := rfl
@[simp] theorem Record.count_streamId (w : RecCounter) (r : Record) : (Record.count w r).streamId = r.streamId := rfl
@[simp] theorem Record.count_cls (w : RecCounter) (r : Record) : (Record.count w r).cls = r.cls := rfl
@[simp] theorem Record.count_rs (w : RecCounter) (r : Record) : (Record.count w r).rs = r.rs := rfl
@[simp] theorem Record.count_tb (w : RecCounter) (r : Record) : (Record.count w r).tb = r.tb := rfl
@[simp] theorem Record.count_p (w : RecCounter) (r : Record) : (Record.count w r).p = r.p := rfl
@[simp] theorem Record.count_a (w : RecCounter) (r : Record) : (Record.count w r).a = r.a := rfl
@[simp] theorem Record.count_opts (w : RecCounter) (r : Record) : (Record.count w r).opts = r.opts := rfl
@[simp] theorem Record.count_amend (w : RecCounter) (r : Record) : (Record.count w r).amend = r.amend := rfl
@[simp] theorem Record.count_history (w : RecCounter) (r : Record) : (Record.count w r).history = r.history := rfl
@[simp] theorem Record.count_filtered (w : RecCounter) (r : Record) : (Record.count w r).filtered = r.filtered := rfl
@[simp] theorem Record.count_clock (w : RecCounter) (r : Record) : (Record.count w r).clock = r.clock := rfl
@[simp] theorem Record.count_disagree (w : RecCounter) (r : Record) : (Record.count w r).disagree = r.disagree := rfl
@[simp] theorem Record.count_silence (w : RecCounter) (r : Record) : (Record.count w r).silence = r.silence := rfl
@[simp] theorem Record.count_recovery (w : RecCounter) (r : Record) : (Record.count w r).recovery = r.recovery := rfl
@[simp] theorem Record.count_held (w : RecCounter) (r : Record) : (Record.count w r).held = r.held := rfl
@[simp] theorem Record.count_causes (w : RecCounter) (r : Record) : (Record.count w r).causes = r.causes := rfl
@[simp] theorem Record.count_counters (w : RecCounter) (r : Record) :
    (Record.count w r).counters = r.counters.bump w := rfl

end Sys2Proof.Machine
end

