-- ==== Sys2Proof/Laws/Ops.lean ====
section
/-! SUPPORT. What each shared operation of Machine/ can do, once: lists of records and of pairs, slots, emission and
transmission, the taking of a frame, the start of a command, a tick, a byte of the management link, the order in which a period's events are
taken. -/

namespace Sys2Proof.Machine

/-! ### Records -/

@[simp] theorem mapFrom_length (f : Nat → Record → Record) (i : Nat) (l : List Record) :
    (mapFrom f i l).length = l.length := by
  induction l generalizing i with
  | nil => rfl
  | cons a l ih => simp [mapFrom, ih]

theorem mapFrom_getElem? (f : Nat → Record → Record) (i j : Nat) (l : List Record) :
    (mapFrom f i l)[j]? = (l[j]?).map (f (i + j)) := by
  induction l generalizing i j with
  | nil => simp [mapFrom]
  | cons a l ih =>
    cases j with
    | zero => simp [mapFrom]
    | succ j => simp [mapFrom, ih, Nat.add_comm, Nat.add_left_comm]

theorem mapFrom_const (f : Record → Record) (i : Nat) (l : List Record) :
    mapFrom (fun _ r => f r) i l = l.map f := by
  induction l generalizing i with
  | nil => rfl
  | cons a l ih => simp [mapFrom, ih]

/-- The record at an index after every record is changed: changed there, or beyond the registry. -/
theorem State.record_mapRecords (f : Nat → Record → Record) (s : State) (i : Nat) :
    (State.mapRecords f s).record i = if i < s.records.length then f i (s.record i) else Record.vacant := by
  simp only [State.record, State.mapRecords_records, List.getD_eq_getElem?_getD, mapFrom_getElem?, Nat.zero_add]
  by_cases h : i < s.records.length <;> simp [h]

theorem State.record_setRecord_same {i : Nat} {s : State} (r : Record) (h : i < s.records.length) :
    (State.setRecord i r s).record i = r := by
  simp [State.record, h]

theorem State.record_setRecord_other {i j : Nat} (r : Record) (s : State) (h : i ≠ j) :
    (State.setRecord i r s).record j = s.record j := by
  simp [State.record, List.getElem?_set_ne h]

/-! ### The directory -/

theorem State.lookup_eq_none {s : State} {id : Nat} : s.lookup id = none ↔ ¬ s.knows id := by
  simp only [State.lookup, State.knows, Option.map_eq_none_iff, List.find?_eq_none]
  constructor
  · rintro h ⟨p, hp, he⟩
    exact h p hp (by simp [he])
  · intro h p hp he
    exact h ⟨p, hp, by simpa using he⟩

theorem State.lookup_mem {s : State} {id i : Nat} (h : s.lookup id = some i) : (id, i) ∈ s.directory := by
  simp only [State.lookup, Option.map_eq_some_iff] at h
  obtain ⟨p, hp, hi⟩ := h
  have hid := List.find?_some hp
  have hm := List.mem_of_find?_eq_some hp
  obtain ⟨a, b⟩ := p
  simp only [beq_iff_eq] at hid
  simp only at hi
  subst hid hi
  exact hm

theorem insertPair_perm (id i : Nat) (ps : List (Nat × Nat)) : (insertPair id i ps).Perm ((id, i) :: ps) := by
  induction ps with
  | nil => rfl
  | cons p ps ih =>
    simp only [insertPair]
    split
    · rfl
    · exact (ih.cons p).trans (List.Perm.swap (id, i) p ps)

/-- R10: a new ID goes in at its place. -/
theorem insertPair_ascending {id i : Nat} {ps : List (Nat × Nat)} (h : (ps.map (·.1)).Pairwise (· < ·))
    (hn : ∀ p ∈ ps, p.1 ≠ id) : ((insertPair id i ps).map (·.1)).Pairwise (· < ·) := by
  induction ps with
  | nil => simp [insertPair]
  | cons p ps ih =>
    simp only [List.map_cons, List.pairwise_cons] at h
    simp only [insertPair]
    split
    · rename_i hlt
      simp only [List.map_cons, List.pairwise_cons]
      refine ⟨?_, h.1, h.2⟩
      intro x hx
      rcases List.mem_cons.1 hx with rfl | hx
      · exact hlt
      · exact Nat.lt_trans hlt (h.1 x hx)
    · rename_i hge
      have hlt : p.1 < id := by
        have := hn p (by simp)
        omega
      simp only [List.map_cons, List.pairwise_cons]
      refine ⟨?_, ih h.2 (fun q hq => hn q (by simp [hq]))⟩
      intro x hx
      have hx' := ((insertPair_perm id i ps).map (·.1)).mem_iff.1 hx
      simp only [List.map_cons, List.mem_cons] at hx'
      rcases hx' with rfl | hx'
      · exact hlt
      · exact h.1 x hx'

/-! ### Entries and slots -/

theorem insertEntry_perm (e : Entry) (es : List Entry) : (insertEntry e es).Perm (e :: es) := by
  induction es with
  | nil => rfl
  | cons x xs ih =>
    simp only [insertEntry]
    split
    · rfl
    · exact (ih.cons x).trans (List.Perm.swap e x xs)

/-- R111: an entry of a new index goes in at its place. -/
theorem insertEntry_ascending {e : Entry} {es : List Entry} (h : (es.map (·.index)).Pairwise (· < ·))
    (hn : ∀ x ∈ es, x.index ≠ e.index) : ((insertEntry e es).map (·.index)).Pairwise (· < ·) := by
  induction es with
  | nil => simp [insertEntry]
  | cons x xs ih =>
    simp only [List.map_cons, List.pairwise_cons] at h
    simp only [insertEntry]
    split
    · rename_i hlt
      simp only [List.map_cons, List.pairwise_cons]
      refine ⟨?_, h.1, h.2⟩
      intro y hy
      rcases List.mem_cons.1 hy with rfl | hy
      · exact hlt
      · exact Nat.lt_trans hlt (h.1 y hy)
    · rename_i hge
      have hlt : x.index < e.index := by
        have := hn x (by simp)
        omega
      simp only [List.map_cons, List.pairwise_cons]
      refine ⟨?_, ih h.2 (fun q hq => hn q (by simp [hq]))⟩
      intro y hy
      have hy' := ((insertEntry_perm e xs).map (·.index)).mem_iff.1 hy
      simp only [List.map_cons, List.mem_cons] at hy'
      rcases hy' with rfl | hy'
      · exact hlt
      · exact h.1 y hy'

theorem Slot.release_opened {sl : Slot} (c : ReleaseCause) (h : sl.status = .opened) :
    sl.release c = { sl with status := .due c } := by simp [Slot.release, h]

theorem Slot.release_due {sl : Slot} (c : ReleaseCause) (h : sl.status ≠ .opened) : sl.release c = sl := by
  cases hs : sl.status with
  | opened => exact absurd hs h
  | due d => simp [Slot.release, hs]

/-- What a release leaves alone: all but the status. -/
theorem Slot.release_frame (c : ReleaseCause) (sl : Slot) : sl.release c = { sl with status := (sl.release c).status } := by
  unfold Slot.release; split <;> rfl

@[simp] theorem Slot.release_epoch (c : ReleaseCause) (sl : Slot) : (sl.release c).epoch = sl.epoch := by
  cases hs : sl.status <;> simp [Slot.release, hs]

@[simp] theorem Slot.release_entries (c : ReleaseCause) (sl : Slot) : (sl.release c).entries = sl.entries := by
  cases hs : sl.status <;> simp [Slot.release, hs]

@[simp] theorem Slot.release_expected (c : ReleaseCause) (sl : Slot) : (sl.release c).expected = sl.expected := by
  cases hs : sl.status <;> simp [Slot.release, hs]

@[simp] theorem Slot.testComplete_epoch (sl : Slot) : sl.testComplete.epoch = sl.epoch := by
  unfold Slot.testComplete; split <;> simp

@[simp] theorem Slot.testComplete_entries (sl : Slot) : sl.testComplete.entries = sl.entries := by
  unfold Slot.testComplete; split <;> simp

@[simp] theorem Slot.testComplete_expected (sl : Slot) : sl.testComplete.expected = sl.expected := by
  unfold Slot.testComplete; split <;> simp

@[simp] theorem Slot.dropExpected_epoch (i : Nat) (sl : Slot) : (sl.dropExpected i).epoch = sl.epoch := by
  unfold Slot.dropExpected; split <;> simp

/-- R123: a removal takes no entry. -/
@[simp] theorem Slot.dropExpected_entries (i : Nat) (sl : Slot) : (sl.dropExpected i).entries = sl.entries := by
  unfold Slot.dropExpected; split <;> simp

@[simp] theorem Slot.dropExpected_hasEntry (i j : Nat) (sl : Slot) :
    (sl.dropExpected i).hasEntry j = sl.hasEntry j := by simp [Slot.hasEntry]

@[simp] theorem Slot.expire_epoch (now : LocalTime) (sl : Slot) : (sl.expire now).epoch = sl.epoch := by
  unfold Slot.expire; split <;> simp

@[simp] theorem Slot.expire_entries (now : LocalTime) (sl : Slot) : (sl.expire now).entries = sl.entries := by
  unfold Slot.expire; split <;> simp

/-! ### Emission, transmission, end of a drain -/

/-- R144, R126: the emission that begins. -/
theorem State.beginEmission_takes {s : State} {sl : Slot} {rest : List Slot} (hw : s.window = sl :: rest)
    (hd : sl.status ≠ .opened) (hr : s.hasRoom) :
    s.beginEmission = State.mapRecords (fun i r => if sl.hasEntry i then r.releaseHeld else r)
      { s with window := rest, emission := some sl } := by
  have hlt : s.egress.length < 4 := by
    have := hr.2
    omega
  simp [State.beginEmission, hw, hd, hr.1, hlt]

/-- R144: otherwise nothing begins. -/
theorem State.beginEmission_none {s : State}
    (h : s.window = [] ∨ (∃ sl rest, s.window = sl :: rest ∧ sl.status = .opened) ∨ ¬ s.hasRoom) :
    s.beginEmission = s := by
  unfold State.beginEmission
  split
  · rfl
  · rename_i sl rest hw
    rw [if_neg]
    rintro ⟨h1, h2, h3⟩
    rcases h with h | ⟨sl', rest', hw', ho⟩ | h
    · simp [h] at hw
    · rw [hw] at hw'
      injection hw' with ha hb
      exact h1 (ha ▸ ho)
    · exact h ⟨h2, Nat.le_of_lt_succ h3⟩

/-- R152. -/
theorem State.beginTransmission_begins {s : State} (he : s.egress ≠ []) (ht : s.transmitting = false)
    (hr : s.ready = true) : s.beginTransmission = { s with transmitting := true } := if_pos ⟨he, ht, hr⟩

theorem State.beginTransmission_none {s : State} (h : s.egress = [] ∨ s.transmitting = true ∨ s.ready = false) :
    s.beginTransmission = s := by
  refine if_neg ?_
  rintro ⟨h1, h2, h3⟩
  rcases h with h | h | h <;> simp_all

/-- R134. -/
theorem State.endDrain_ends {s : State} (hr : s.run = .draining) (hw : s.window = []) (he : s.emission = none) :
    s.endDrain = { s with run := .stopped, causes := s.causes ||| EngineCause.drained } := if_pos ⟨hr, hw, he⟩

theorem State.endDrain_none {s : State} (h : s.run ≠ .draining ∨ s.window ≠ [] ∨ s.emission ≠ none) :
    s.endDrain = s := by
  refine if_neg ?_
  rintro ⟨h1, h2, h3⟩
  rcases h with h | h | h <;> contradiction

/-! ### Taking and handling a frame -/

/-- R54: the oldest frame is taken when intake handles none and no edit is in flight. -/
theorem State.takeFrame_takes {s : State} {f : QueuedFrame} {rest : List QueuedFrame} (hf : s.fifo = f :: rest)
    (hh : s.handling = none) (he : s.editInFlight = false) :
    s.takeFrame = { s with handling := some f, fifo := rest } := by simp [State.takeFrame, hf, hh, he]

/-- R55: otherwise intake takes nothing. -/
theorem State.takeFrame_none {s : State} (h : s.fifo = [] ∨ s.handling ≠ none ∨ s.editInFlight = true) :
    s.takeFrame = s := by
  unfold State.takeFrame
  split
  · rfl
  · rename_i hf
    refine if_neg fun hc => ?_
    rcases h with h | h | h
    · simp [hf] at h
    · exact h hc.1
    · simp [hc.2] at h

/-- A frame taken stays taken: a second test finds nothing to do. -/
@[simp] theorem State.takeFrame_takeFrame (s : State) : s.takeFrame.takeFrame = s.takeFrame := by
  by_cases h : s.fifo = [] ∨ s.handling ≠ none ∨ s.editInFlight = true
  · rw [State.takeFrame_none h, State.takeFrame_none h]
  · simp only [not_or, ne_eq, not_not, Bool.not_eq_true] at h
    obtain ⟨hf, hh, he⟩ := h
    obtain ⟨f, rest, hf⟩ := List.exists_cons_of_ne_nil hf
    exact State.takeFrame_none (.inr (.inl (by simp [State.takeFrame_takes hf hh he])))

/-- R54: the handling of the frame that intake has taken. -/
theorem execFrameHandling_some {s : State} {f : QueuedFrame} (h : s.handling = some f) :
    execFrameHandling s =
      .next (State.applyDisposition (s.dispose f) { s with handling := none }).takeFrame := by
  have ht : s.takeFrame = s := State.takeFrame_none (.inr (.inl (by simp [h])))
  simp only [execFrameHandling, ht, State.endHandling, h]
  rfl

/-- R54: where no frame is taken, the row takes the oldest and handles it. -/
theorem execFrameHandling_takes (s : State) : execFrameHandling s = execFrameHandling s.takeFrame := by
  rw [execFrameHandling, execFrameHandling, State.takeFrame_takeFrame]

/-! ### Starting a command -/

/-- R164: a message that the row starts is carried out, gone from the queue. -/
theorem State.startCommand_offers {s : State} {m : Message} {rest : List Message} (h : s.offers m rest)
    (starts : Message → Bool) (body : Message → State → State) :
    State.startCommand starts body s = if starts m then body m { s with queue := rest } else s := by
  simp only [State.startCommand, h.1, h.2]

/-- R164: nothing starts while a command is in progress or no message waits. -/
theorem State.startCommand_none {s : State} (h : s.port ≠ .idle ∨ s.queue = []) (starts : Message → Bool)
    (body : Message → State → State) : State.startCommand starts body s = s := by
  unfold State.startCommand
  split
  · rename_i hp hq
    rcases h with h | h
    · exact absurd hp h
    · simp [h] at hq
  · rfl

theorem withLength_eq {len : Nat} {m : Message} (h : m.len = len) (body : Message → State → State) (s : State) :
    withLength len body m s = body m s := if_pos h

theorem withLength_ne {len : Nat} {m : Message} (h : m.len ≠ len) (body : Message → State → State) (s : State) :
    withLength len body m s = s.answer m .malformed .none := if_neg h

theorem withStream_unknown {offset : Nat} {m : Message} {s : State} (h : ¬ s.knows (fieldAt m.body offset 4))
    (body : Nat → Message → State → State) : withStream offset body m s = s.answer m .notFound .none := by
  simp [withStream, State.lookup_eq_none.2 h]

theorem withStream_known {offset i : Nat} {m : Message} {s : State} (h : s.lookup (fieldAt m.body offset 4) = some i)
    (body : Nat → Message → State → State) : withStream offset body m s = body i m s := by
  simp [withStream, h]

/-- What an answer makes of the state a command started from. -/
theorem State.answer_started (m : Message) (rest : List Message) (status : Status) (ret : ReturnFields) (s : State) :
    State.answer m status ret { s with queue := rest } = State.replied m rest status ret s := rfl

/-- R164: with no command in progress, the oldest message's command is carried out, gone from the queue. -/
theorem State.startOldest_offers {s : State} {m : Message} {rest : List Message} (h : s.offers m rest) :
    s.startOldest = m.carryOut { s with queue := rest } := by
  rw [State.startOldest, State.startCommand_offers h]; rfl

theorem State.startOldest_none {s : State} (h : s.port ≠ .idle ∨ s.queue = []) : s.startOldest = s :=
  State.startCommand_none h _ _

/-- The start of the oldest message is what its row does. -/
theorem State.exec_command {s : State} {m : Message} {rest : List Message} (h : s.offers m rest) :
    exec m.command s = .next s.startOldest := by
  rw [State.startOldest_offers h]
  by_cases h7 : m.kind.toNat = 7
  · by_cases hm : m.len = 1 ∧ fieldAt m.body 0 1 = 1
    · simp [Message.command, Message.carryOut, exec, execStopFlush, State.startCommand_offers h, Message.isKind, h7, hm]
    · simp [Message.command, Message.carryOut, exec, execStopDrain, State.startCommand_offers h, Message.isKind, h7, hm]
  · simp only [Message.command, Message.carryOut]
    split <;> try
      (rename_i hk
       simp only [exec, execReadEngine, execConfigureAlignment, execConfigureTimebase, execSetTime, execReadTime,
         execStart, execResetEngine, execSetEngineCauseMask, execTakeEngineCauses, execRegisterStream, execAmendStream,
         execSuspendStream, execResumeStream, execResetStream, execRetireStream, execLookupStream, execListStreams,
         execReadStream, execTakeStreamCauses, State.startCommand_offers h, Message.isKind, hk, BEq.rfl, if_true])
    · contradiction
    · have hk : m.knownKind = false := by
        simp only [Message.knownKind, Bool.or_eq_false_iff, Bool.and_eq_false_iff, decide_eq_false_iff_not]
        simp only [imp_false] at *
        omega
      simp [execMalformed, State.startCommand_offers h, hk]

/-! ### A tick -/

/-- What leaving ACTIVE does for a list of records: their indices leave the expected sets in turn. -/
theorem State.foldl_leaveActive (fell : List Nat) (s : State) :
    fell.foldl (fun acc i => State.leaveActive i acc) s =
      { s with window := s.window.map (fun sl => fell.foldl (fun acc i => Slot.dropExpected i acc) sl) } := by
  induction fell generalizing s with
  | nil => simp
  | cons i fell ih =>
    simp only [List.foldl_cons, ih]
    simp [State.leaveActive, Function.comp_def]

theorem State.record_eq_of_getElem? {s : State} {i : Nat} {r : Record} (h : s.records[i]? = some r) :
    s.record i = r := by simp [State.record, h]

/-- R99: the indices of the records that the count makes SILENT. -/
theorem State.mem_fallingSilent {s : State} {k i : Nat} : i ∈ s.fallingSilent k ↔
    (s.record i).state = .active ∧ ((s.record i).countSilence s.settings.rout k).state = .silent := by
  simp only [State.fallingSilent, List.mem_map, List.mem_filter, Prod.exists, List.mem_zipIdx_iff_getElem?,
    Bool.and_eq_true, beq_iff_eq, exists_eq_right]
  constructor
  · rintro ⟨r, hr, h⟩
    exact (State.record_eq_of_getElem? hr).symm ▸ h
  · intro h
    cases hr : s.records[i]? with
    | none => simp [State.record, hr, Record.vacant] at h
    | some r => exact ⟨r, rfl, State.record_eq_of_getElem? hr ▸ h⟩

/-- An amendment changes no record's state. -/
theorem Record.settleAmendment_state (r : Record) : r.settleAmendment.state = r.state := by
  unfold Record.settleAmendment
  split
  · rfl
  · split <;> rfl

/-- What comes before the opening of a slot changes the records and the window alone. -/
theorem State.beforeOpening_frame (k : Nat) (s : State) : s.beforeOpening k =
    { s with records := (s.beforeOpening k).records, window := (s.beforeOpening k).window } := by
  simp only [State.beforeOpening, State.countSilence, State.foldl_leaveActive]
  rfl

/-- R24, R98: each record is amended and then counted. -/
theorem State.record_beforeOpening (k i : Nat) (s : State) :
    (s.beforeOpening k).record i = ((s.record i).settleAmendment).countSilence s.settings.rout k := by
  simp only [State.beforeOpening, State.countSilence, State.foldl_leaveActive]
  show (State.mapRecords _ (State.mapRecords _ s)).record i = _
  rw [State.record_mapRecords, State.record_mapRecords]
  by_cases h : i < s.records.length
  · simp [h]
  · simp [h, State.record, Record.vacant, Record.settleAmendment, Record.countSilence, Record.countedAt]

/-! ### A byte of the management link -/

/-- R163, R167: when the part accepts a byte of the management link. -/
theorem State.mgmtReady_iff {s : State} :
    s.mgmtReady = true ↔ s.resetAsserted = false ∧ (s.reception ≠ [] ∨ s.queue.length < 8) := by
  simp only [State.mgmtReady, Bool.and_eq_true, Bool.or_eq_true, Bool.not_eq_true', bne_iff_ne]
  exact and_congr_right fun _ => or_congr_right decide_eq_true_iff

/-- R163, R167: a byte that is not accepted changes nothing. -/
theorem State.receiveByte_held {s : State} (h : s.mgmtReady = false) (b : Byte) : s.receiveByte b = s := by
  simp [State.receiveByte, h]

/-- R162: a byte that leaves the message unfinished joins it. -/
theorem State.receiveByte_joins {s : State} {b : Byte} (h : s.mgmtReady = true)
    (hm : Message.ofWire (s.reception ++ [b]) = none) :
    s.receiveByte b = { s with reception := s.reception ++ [b] } := by
  simp [State.receiveByte, h, hm]

/-- R162, R164: the last byte of a message. -/
theorem State.receiveByte_ends {s : State} {b : Byte} {m : Message} (h : s.mgmtReady = true)
    (hm : Message.ofWire (s.reception ++ [b]) = some m) :
    s.receiveByte b = State.startOldest { s with reception := [], queue := s.queue ++ [m] } := by
  simp [State.receiveByte, h, hm]

/-- R193: the message is unfinished until its header and the declared number of body bytes are there. -/
theorem Message.ofWire_eq_some {bytes : List Byte} {m : Message} : Message.ofWire bytes = some m ↔
    ∃ kind tag len body, bytes = kind :: tag :: len :: body ∧ len.toNat ≤ body.length ∧
      m = { kind, tag, len := len.toNat, body := (body.take len.toNat).take 32 } := by
  constructor
  · intro h
    match bytes, h with
    | kind :: tag :: len :: body, h =>
      simp only [Message.ofWire] at h
      split at h
      · rename_i hl
        exact ⟨kind, tag, len, body, rfl, hl, (Option.some.inj h).symm⟩
      · contradiction
    | [], h => contradiction
    | [_], h => contradiction
    | [_, _], h => contradiction
  · rintro ⟨kind, tag, len, body, rfl, hl, rfl⟩
    exact if_pos hl

/-- R162: fewer bytes of a message than its header declares leave it unfinished. -/
theorem Message.ofWire_short {kind tag len : Byte} {body pre : List Byte} (hp : pre <+: kind :: tag :: len :: body)
    (hl : pre.length < 3 + len.toNat) : Message.ofWire pre = none := by
  cases h : Message.ofWire pre with
  | none => rfl
  | some m =>
    obtain ⟨k, t, l, b, rfl, hb, -⟩ := Message.ofWire_eq_some.1 h
    simp only [List.cons_prefix_cons] at hp
    obtain ⟨-, -, rfl, -⟩ := hp
    simp only [List.length_cons] at hl
    omega

/-- R162, R163: bytes that leave the message unfinished join it. -/
theorem State.foldl_receiveByte_joins (bytes : List Byte) {s : State} (hr : s.resetAsserted = false)
    (hq : s.reception ≠ [] ∨ s.queue.length < 8)
    (h : ∀ pre, pre <+: bytes → Message.ofWire (s.reception ++ pre) = none) :
    bytes.foldl (fun acc b => acc.receiveByte b) s = { s with reception := s.reception ++ bytes } := by
  induction bytes generalizing s with
  | nil => simp
  | cons b bytes ih =>
    have hready : s.mgmtReady = true := State.mgmtReady_iff.2 ⟨hr, hq⟩
    rw [List.foldl_cons, State.receiveByte_joins hready (h [b] (by simp)),
      ih (s := { s with reception := s.reception ++ [b] }) hr (.inl (by simp))]
    · simp
    · intro pre hp
      have := h (b :: pre) (by simpa using hp)
      simpa using this

/-- R162, R164: a whole message that arrives between messages. -/
theorem State.foldl_receiveByte_message {kind tag : Byte} {body : List Byte} {s : State} (hr : s.resetAsserted = false)
    (hrec : s.reception = []) (hq : s.queue.length < 8) (hl : body.length ≤ 255) :
    (kind :: tag :: BitVec.ofNat 8 body.length :: body).foldl (fun acc b => acc.receiveByte b) s =
      State.startOldest { s with
        queue := s.queue ++ [{ kind, tag, len := body.length, body := body.take 32 }] } := by
  have hn : (BitVec.ofNat 8 body.length).toNat = body.length := by simp; omega
  generalize hw : kind :: tag :: BitVec.ofNat 8 body.length :: body = bytes
  have hlen : bytes.length = 3 + body.length := by simp only [← hw, List.length_cons]; omega
  have hne : bytes ≠ [] := by simp [← hw]
  have hsplit := List.dropLast_append_getLast hne
  rw [← hsplit, List.foldl_append, State.foldl_receiveByte_joins bytes.dropLast hr (.inr hq)]
  · rw [List.foldl_cons, List.foldl_nil,
      State.receiveByte_ends (m := { kind, tag, len := body.length, body := body.take 32 })]
    · simp [← hrec]
    · exact State.mgmtReady_iff.2 ⟨hr, .inr hq⟩
    · show Message.ofWire (s.reception ++ bytes.dropLast ++ [bytes.getLast hne]) = _
      rw [hrec, List.nil_append, hsplit, ← hw]
      simp [Message.ofWire, hn]
  · intro pre hp
    rw [hrec, List.nil_append]
    have hp' : pre <+: kind :: tag :: BitVec.ofNat 8 body.length :: body :=
      hw ▸ hp.trans (List.dropLast_prefix bytes)
    refine Message.ofWire_short hp' ?_
    have := hp.length_le
    rw [List.length_dropLast] at this
    omega

/-- The row of a whole message is its reception. -/
theorem exec_messageReceived (kind tag : Byte) (body : List Byte) (s : State) :
    exec (.messageReceived kind tag body) s = execMessageReceived kind tag body s := rfl

/-- R162 to R164: a whole message that arrives between messages joins the queue, and the port tests for a start. -/
theorem execMessageReceived_eq {kind tag : Byte} {body : List Byte} {s : State} (hr : s.resetAsserted = false)
    (hrec : s.reception = []) (hq : s.queue.length < 8) (hl : body.length ≤ 255) :
    execMessageReceived kind tag body s = .next (State.startOldest { s with
      queue := s.queue ++ [{ kind, tag, len := body.length, body := body.take 32 }] }) :=
  congrArg _ (State.foldl_receiveByte_message hr hrec hq hl)

/-! ### The events of a period -/

/-- Whatever the picks, every event of the period is taken once. -/
theorem takeInOrder_perm (pick : Nat → Nat) (fuel : Nat) (l : List Instr) : (takeInOrder pick fuel l).Perm l := by
  induction fuel generalizing l with
  | zero => rfl
  | succ fuel ih =>
    match l with
    | [] => rfl
    | [x] => rfl
    | x :: y :: l =>
      simp only [takeInOrder]
      have hlt : pick (x :: y :: l).length % (x :: y :: l).length < (x :: y :: l).length :=
        Nat.mod_lt _ (by simp)
      generalize pick (x :: y :: l).length % (x :: y :: l).length = i at hlt
      have hget : (x :: y :: l).getD i x = (x :: y :: l)[i] := by
        rw [List.getD_eq_getElem?_getD, List.getElem?_eq_getElem hlt]; rfl
      rw [hget]
      exact ((ih _).cons _).trans (List.getElem_cons_eraseIdx_perm hlt)

end Sys2Proof.Machine
end

