-- ==== Sys2Proof/WellFormed.lean ====
section
/-! DEFINITION. Which commands can occur on the part's links: the ranges of their operands. -/

namespace Sys2Proof

/-- An epoch of the seconds range, with an index some output rate has (ch0 "Epochs", R136). -/
def Epoch.inRange (e : Epoch) : Bool := e.sec ≤ Config.maxSec && e.k < 120

/-- A command that can occur. -/
def Instr.wellFormed : Instr → Bool
  | .powerOn => true
  | .resetInputRelease => true
  | .ppsEdge => true
  | .acquireTimeout => true
  | .missingEdgeLimit => true
  | .holdoverLimit => true
  | .epochTick => true
  | .deadlineExpiry e => e.inRange
  | .frameOffered _ => true
  | .frameHandling => true
  | .insertionEditCompletion => true
  | .removalEditCompletion => true
  | .emissionBegin => true
  | .emissionCompletion => true
  | .transmissionBegin => true
  | .transmissionCompletion => true
  | .readyAssert => true
  | .readyWithdraw => true
  | .managementBytes _ => true
  | .answerSent => true
  | .malformed => true
  | .readEngine => true
  | .configureAlignment => true
  | .configureTimebase => true
  | .setTime => true
  | .readTime => true
  | .start => true
  | .stopDrain => true
  | .stopFlush => true
  | .resetEngine => true
  | .setEngineCauseMask => true
  | .takeEngineCauses => true
  | .registerStream => true
  | .amendStream => true
  | .suspendStream => true
  | .resumeStream => true
  | .resetStream => true
  | .retireStream => true
  | .lookupStream => true
  | .listStreams => true
  | .readStream => true
  | .takeStreamCauses => true

end Sys2Proof
end

