-- ==== Sys2Proof/Tests/Slice0.lean ====
section
/-! SUPPORT. Own tests: ill-formed commands, small runs of each command on the spec's worked figures, and for each
obligation with hypotheses a state and operands that meet them. -/

namespace Sys2Proof.Tests

open Sys2Proof.Machine

/-! ### Ill-formed commands, and words (no row of the table gives bits) -/

theorem test_wellFormed_expiry_range :
    (Instr.deadlineExpiry { sec := 4294967296, k := 0 }).wellFormed = false ∧
      (Instr.deadlineExpiry { sec := 0, k := 120 }).wellFormed = false ∧
      (Instr.deadlineExpiry { sec := 4294967295, k := 119 }).wellFormed = true := by decide

theorem test_no_word_spells_a_command (nbits w : Nat) (s : State) :
    decodeTableWord nbits w = none ∧ s.withFetchWord nbits w = s := ⟨rfl, rfl⟩

/-! ### Small states -/

/-- What a command makes of a state. -/
def after (c : Instr) (s : State) : State :=
  match exec c s with
  | .next t => t
  | .fault _ => s
  | .refused _ => s

/-- The part after reset with a short registry. -/
def part (records : List Record) : State := { State.reset with records }

/-- A command message as it travels, with tag 7. -/
def wire (kind : Nat) (body : List Nat) : List Byte := ([kind, 7, body.length] ++ body).map (BitVec.ofNat 8)

/-- A message as the queue keeps it. -/
def msg (kind : Nat) (body : List Nat) : Message :=
  { kind := BitVec.ofNat 8 kind, tag := 7, len := body.length, body := (body.take 32).map (BitVec.ofNat 8) }

/-- `s` with one message in the queue. -/
def asked (kind : Nat) (body : List Nat) (s : State) : State := { s with queue := [msg kind body] }

/-- The answer of status `status` to a message of kind `kind`. -/
def answered (kind : Nat) (status : Status) (ret : ReturnFields) : MgmtPort :=
  .answering { kind := BitVec.ofNat 8 kind, tag := 7, status, ret }

/-- A number as the 4 bytes of a body. -/
def id4 (v : Nat) : List Nat := (beBytes 4 v).map BitVec.toNat

/-- Record 7 of ch1's amendment example (ID 5001), in a state of choice, of the shape of ch4's worked case. -/
def station (state : RecState) : Record :=
  { Record.vacant with
    state, streamId := 5001, rs := 50, tb := 1000000, p := 1, history := [98210, 101400, 99875, 100625],
    filtered := some 100027 }

/-- The part with one record, its pair, and a run state. -/
def engine (run : RunState) (r : Record) : State := { part [r] with directory := [(5001, 0)], run }

/-- A slot of second 10 at Rout = 50. -/
def slotAt (k : Nat) (status : SlotStatus) (expected : List (Nat × Nat)) (entries : List Entry) : Slot :=
  { epoch := { sec := 10, k }, status, tbState := .locked, wait := 125034,
    deadline := deadlineOf 50 { sec := 10, k } 125034, snapshot := expected.length, expected, entries }

/-- An entry of record 0. -/
def entry (extra : Bool) : Entry :=
  { index := 0, streamId := 5001, align := .snapped, suspect := false, extra, flags := 0, residual := 0,
    latency := 100625,
    data := { phasors := [{ magnitude := 5, angle := 12000 }], freqDev := 120, rocof := 0, analogs := [], digital := 0 } }

/-- A timebase in a state, its previous capture `since` periods ago, at (9, `ns`). -/
def base (state : TbState) (good bad since ns : Nat) : State :=
  { part [] with
    time := { sec := 9, ns }
    tb := { Timebase.reset with
      state, good, bad, prevCapture := some { sec := 8, ns := 0 }, sinceCapture := since } }

/-- A RUNNING engine whose next epoch is (10, `k`), at local time (10, `ns`). -/
def due (k ns : Nat) (r : Record) (window : List Slot) : State :=
  { engine .running r with time := { sec := 10, ns }, nextEpoch := some { sec := 10, k }, window }

/-- A frame of ch4's worked case: SOC 10, one phasor at angle 12,000, +120 mHz. -/
def frameOf (id quality frac : Nat) (flags : BitVec 16) : QueuedFrame :=
  { bytes := frameBytes id 10 quality frac flags (entry false).data, length := 26
    arrival := { sec := 10, ns := 521875000 } }

/-- ch4's record: rotate on, τ = 500 µs, ρ = 5,000 µs, N = 4. -/
def rotating (state : RecState) : Record :=
  { station state with opts := { Options.default with rotate := true, tau := 500, rho := 5000 } }

/-- An engine with the window of ch4's worked case open: its frame of FRAC `frac` is being handled. -/
def handled (frac : Nat) (r : Record) : State :=
  { due 22 425000000 r [slotAt 21 .opened [(0, 5001)] []] with
    handling := some (frameOf 5001 0 frac 0), newest := some { epoch := { sec := 10, k := 21 }, wait := 125034 } }

/-! ### Reset, timebase (ch2) -/

theorem test_powerOn :
    (after .powerOn { base .locked 2 1 5 8 with causes := 1, mask := 0, queue := [msg 1 [0]] }).tb = Timebase.reset ∧
      (after .powerOn (base .locked 2 1 5 8)).resetAsserted = true := by decide

theorem test_resetInputRelease :
    (after .resetInputRelease { part [] with resetAsserted := true }).resetAsserted = false := by decide

theorem test_ppsEdge_first :
    (after .ppsEdge { part [] with time := { sec := 0, ns := 412345600 } }).tb.state = .acquiring ∧
      (after .ppsEdge (part [])).causes = EngineCause.tbState := by decide

/-- Section 2.4's run: the lock at the armed value; an edge of a LOCKED timebase with e = −1,200 ns. -/
theorem test_ppsEdge_steps :
    (after .ppsEdge
      { base .acquiring 1 0 125000000 800000000 with
        tb := { (base .acquiring 1 0 125000000 0).tb with armed := some 1700000100 } }).time =
        { sec := 1700000100, ns := 0 } ∧
      (after .ppsEdge (base .locked 2 0 125000000 8)).time = { sec := 9, ns := 0 } ∧
      (after .ppsEdge (base .locked 2 0 125000000 999999600)).time = { sec := 10, ns := 0 } ∧
      (after .ppsEdge (base .locked 2 0 125000000 999998800)).time = { sec := 9, ns := 999998800 } := by decide

theorem test_acquireTimeout : (after .acquireTimeout (base .acquiring 1 0 375000000 0)).tb.state = .free := by decide

theorem test_missingEdgeLimit :
    (after .missingEdgeLimit (base .locked 2 1 187500000 0)).tb.state = .holdover := by decide

theorem test_holdoverLimit :
    (after .holdoverLimit
      { part [] with tb := { Timebase.reset with state := .holdover, inHoldover := 75000000000 } }).tb.state = .free := by
  decide

/-- R45: START at (1000, 980,000,000) at Rout = 50 skips to the next second. -/
theorem test_firstEpochAfter :
    firstEpochAfter 50 { sec := 1000, ns := 980000000 } = some { sec := 1001, k := 0 } ∧
      firstEpochAfter 30 { sec := 1000, ns := 33333328 } = some { sec := 1000, k := 1 } ∧
      firstEpochAfter 30 { sec := 1000, ns := 33333336 } = some { sec := 1000, k := 2 } := by decide

/-! ### Ticks, waits, deadlines (ch6, ch7) -/

/-- ch7's worked wait: Lcrit = 100,027 and M = 32 give 125,034 µs. -/
theorem test_epochTick :
    (after .epochTick (due 1 20000000 (station .active) [])).window = [slotAt 1 .opened [(0, 5001)] []].map
      (fun sl => { sl with tbState := .free }) := by decide

/-- ch1's amendment example: N = 2 at the tick makes F 100,250. -/
theorem test_epochTick_amends :
    ((after .epochTick (due 1 20000000
      { station .active with amend := some { Amendment.empty with tau := some 200, filterN := some 2 } } [])).record
        0).filtered = some 100250 := by decide

/-- ch7's table of waits. -/
theorem test_waits :
    [(some 100027, 32), (some 100027, 0), (some 100027, 127), (some 8000, 32), (some 2900000, 32), (none, 32)].map
      (fun lm => State.waitNow
        { part (match lm.1 with
            | none => []
            | some l => [{ station .active with filtered := some l }]) with
          settings := { AlignSettings.reset with margin := lm.2 } }) =
      [125034, 100027, 199273, 20000, 1240000, 20000] := by decide

theorem test_deadlineExpiry :
    ((after (.deadlineExpiry { sec := 10, k := 1 })
      { due 9 145034000 (station .active) [slotAt 0 .opened [] [], slotAt 1 .opened [] []] with
        time := { sec := 10, ns := 145034000 } }).window.map (·.status)) = [.opened, .due .deadline] := by decide

/-! ### Intake (ch3 to ch5) -/

theorem test_frameOffered :
    let f : QueuedFrame := { bytes := List.replicate 78 1, length := 80, arrival := { sec := 0, ns := 0 } }
    let s := after (.frameOffered (List.replicate 80 1)) (part [])
    (s.handling = some f ∧ s.fifo = []) ∧ (after (.frameOffered (List.replicate 80 1)) s).fifo = [f] := by decide

theorem test_frameOffered_full :
    (after (.frameOffered []) { part [] with fifo := List.replicate 256 (frameOf 1 0 0 0) }).counters.dropped = 1 := by
  decide +kernel

/-- ch4's worked case: epoch (10, 21), ROTATED to 7,894, δns = 1,250,000, L = 100,625 µs, and the slot is complete. -/
theorem test_frameHandling_placed :
    (after .frameHandling (handled 421250 (rotating .pending))).emission =
      some (slotAt 21 (.due .complete) [(0, 5001)]
        [{ entry false with
           align := .rotated, residual := 1250000
           data := { (entry false).data with phasors := [{ magnitude := 5, angle := 7894 }] } }]) := by decide

/-- ch4: the half-grid frame is MISALIGNED; a frame of an ID not in the directory is UNKNOWN. -/
theorem test_frameHandling_not_placed :
    ((after .frameHandling (handled 10000 (rotating .active))).record 0).causes = StreamCause.misalign ∧
      (after .frameHandling { handled 0 (rotating .active) with handling := some (frameOf 7 0 0 0) }).counters.unknown = 1 := by
  decide

/-- ch4's table of rotations, and its negative residual. -/
theorem test_rotations :
    [(120, 0), (120, 8192), (8000, 0), (-32768, 0)].map
      (fun df => angleCorrection 50 1250000 (BitVec.ofNat 16 df.2) (BitVec.ofInt 16 df.1)) =
      [-4106, -4096, -4506, -3686] ∧
      angleCorrection 60 1250000 0 120 = -4925 ∧ angleCorrection 50 (-1250000) 0 120 = 4106 := by decide

/-- ch4: the edge of the wrap, and rounding away from zero. -/
theorem test_residuals :
    [989999, 990000, 999800].map (fun f => (gridIndex f 50 1000000, residualNs f 50 1000000)) =
      [(49, 9999000), (50, -10000000), (50, -200000)] ∧ residualNs 533400 60 1000000 = 66667 := by decide

/-- ch5's filter through a latency spike (N = 4). -/
theorem test_filter :
    ([98210, 101400, 99875, 100625, 412000, 100100, 99950, 100300, 100200].foldl
      (fun rf l => ((rf.1.learnLatency l), rf.2 ++ [(rf.1.learnLatency l).filtered])) (Record.vacant, [])).2 =
      [98210, 99805, 99828, 100027, 178475, 178150, 178168, 178087, 100137].map some := by decide

/-- ch5's debounce example (q = 4): the clock state after each observed frame. -/
theorem test_debounce :
    ([(0, 3), (0, 7), (0, 2), (16384, 2), (16384, 6), (16384, 9), (0, 4), (0, 4)].foldl
      (fun (rf : Record × List ClockState) (fq : BitVec 16 × Nat) =>
        ((rf.1.observe fq.1 fq.2), rf.2 ++ [(rf.1.observe fq.1 fq.2).clock]))
      ({ Record.vacant with opts := { Options.default with qualityLimit := 4 } }, [])).2 =
      [.locked, .locked, .locked, .locked, .unlocked, .unlocked, .unlocked, .locked] := by decide

/-! ### Edits (ch1's worked example) -/

theorem test_insertionEditCompletion :
    (after .insertionEditCompletion
      { part [station .active, Record.vacant] with
        directory := [(5001, 0)]
        port := .editing 16 7 (.insertion 1
          { streamId := 3200, cls := .member, rs := 10, tb := 1000000, p := 0, a := 0,
            opts := Options.default }) }).directory = [(3200, 1), (5001, 0)] := by decide

theorem test_removalEditCompletion :
    (after .removalEditCompletion
      { engine .running { station .active with held := 2 } with
        port := .editing 21 7 (.removal 5001 0) }).port = answered 21 .deferred .none ∧
      ((after .removalEditCompletion
        { engine .running (station .active) with port := .editing 21 7 (.removal 5001 0) }).record 0) =
        Record.vacant := by decide

/-- A completion of the other kind of edit is no event. -/
theorem test_other_edit :
    let removal := { engine .running (station .active) with port := .editing 21 7 (.removal 5001 0) }
    after .insertionEditCompletion removal = removal := by
  decide +kernel

/-- 3.6's burst in small: the edit waits for the frame in handling, whose lookup does not find the new ID; intake then holds,
and takes the next frame at the edit's completion. -/
theorem test_burst_through_an_edit :
    let s := { part [Record.vacant] with
      handling := some (frameOf 3200 0 0 0), fifo := [frameOf 3200 0 0 0]
      port := .editing 16 7 (.insertion 0
        { streamId := 3200, cls := .member, rs := 10, tb := 1000000, p := 0, a := 0, opts := Options.default }) }
    let held := after .frameHandling s
    let done := after .insertionEditCompletion held
    after .insertionEditCompletion s = s ∧
      (held.counters.unknown = 1 ∧ held.handling = none ∧ held.fifo.length = 1) ∧
      done.handling = some (frameOf 3200 0 0 0) ∧ done.fifo = [] ∧ done.lookup 3200 = some 0 := by
  decide +kernel

/-! ### Egress (ch8) -/

theorem test_emissionBegin :
    (after .emissionBegin
      { engine .running { station .retiring with held := 1 } with
        window := [slotAt 0 (.due .deadline) [] [entry true]] }).records = [Record.vacant] := by decide

/-- The last set of a drain: the engine stops, DRAINED is raised, and the ready consumer's transmission begins. -/
theorem test_emissionCompletion :
    let t := after .emissionCompletion
      { engine .draining (station .silent) with
        ready := true, emission := some (slotAt 0 (.due .flush) [(0, 5001)] []) }
    t.run = .stopped ∧ t.causes = EngineCause.drained ∧ t.transmitting = true ∧ t.counters.flush = 1 ∧
      t.egress.map (·.entries) = [[.absent 0 5001]] := by decide

theorem test_transmissionBegin :
    (after .transmissionBegin
      { part [] with ready := true, egress := [buildSet 50 (slotAt 0 (.due .flush) [] [])] }).transmitting = true := by
  decide

theorem test_transmissionCompletion :
    (after .transmissionCompletion
      { part [] with
        ready := true, transmitting := true, egress := [buildSet 50 (slotAt 0 (.due .flush) [] [])] }).egress = [] := by
  decide

theorem test_ready :
    (after .readyAssert
      { part [] with egress := [buildSet 50 (slotAt 0 (.due .flush) [] [])] }).transmitting = true ∧
      (after .readyWithdraw { part [] with ready := true }).ready = false := by decide

/-! ### Management (ch9) -/

/-- A long message behind a READ TIME that is started at its reception, and the start of a third. -/
theorem test_messageReceived :
    let t := after (.managementBytes (wire 5 [] ++ wire 4 (List.replicate 40 0) ++ [6, 7])) (part [])
    (t.port = answered 5 .done (.time { sec := 0, ns := 0 } .free none) ∧ t.queue = [msg 4 (List.replicate 40 0)] ∧
      t.reception = [6, 7]) ∧
      (after (.managementBytes (wire 5 [])) { part [] with queue := List.replicate 8 (msg 5 []) }).queue.length = 8 := by
  decide +kernel

/-- The end of an answer starts the next command (9.7's sequence in small). -/
theorem test_answerSent :
    let s := after .answerSent { part [] with port := answered 5 .done .none, queue := [msg 6 [], msg 5 []] }
    s.port = answered 6 .done .none ∧ s.run = .running ∧ s.queue = [msg 5 []] := by decide

/-- R193: a body of 3 bytes where 4 were declared takes in the next message's first byte. -/
theorem test_short_body :
    (after (.managementBytes ([4, 7, 4, 0, 0, 0] ++ wire 5 [])) (part [])).time = { sec := 5, ns := 0 } ∧
      (after (.managementBytes ([4, 7, 4, 0, 0, 0] ++ wire 5 [])) (part [])).reception = [7, 0] := by decide

/-- A whole message with the longest body waits behind the command in progress. -/
theorem test_wholeMessage :
    let busy := { part [] with port := answered 5 .done .none }
    after (.messageReceived 4 7 (List.replicate 255 0)) busy = { busy with queue := [msg 4 (List.replicate 255 0)] } := by
  decide +kernel

theorem test_malformed : (after .malformed (asked 26 [] (part []))).port = answered 26 .malformed .none := by decide

theorem test_readEngine :
    (after .readEngine (asked 1 [0] (part []))).port = answered 1 .done (.engine (part []).report) ∧
      (part []).report.bytes.length = 67 := by decide

/-- ch9: which check decides. -/
theorem test_configureAlignment :
    (after .configureAlignment (asked 2 ([20] ++ id4 900000 ++ [21] ++ id4 800000) (engine .running
      (station .active)))).port = answered 2 .state .none ∧
      (after .configureAlignment (asked 2 [] (part []))).port = answered 2 .malformed .none ∧
      (after .configureAlignment (asked 2 [16, 60] (engine .stopped (station .active)))).port =
        answered 2 .rate (.index 0) ∧
      (after .configureAlignment (asked 2 [16, 25] (engine .stopped (station .active)))).settings.rout = 25 := by decide

theorem test_configureTimebase :
    (after .configureTimebase (asked 3 [26, 0, 60] (part []))).tb.staged.holdoverLimit = some 60 ∧
      (after .configureTimebase (asked 3 [26, 14, 17] (part []))).port = answered 3 .range .none := by decide

theorem test_setTime :
    (after .setTime (asked 4 (id4 1700000100) (part []))).time = { sec := 1700000100, ns := 0 } ∧
      (after .setTime (asked 4 (id4 1700000100) (base .acquiring 0 0 0 0))).tb.armed = some 1700000100 := by decide

theorem test_readTime :
    (after .readTime (asked 5 [] (part []))).port = answered 5 .done (.time { sec := 0, ns := 0 } .free none) := by
  decide

theorem test_start : (after .start (asked 6 [] (part []))).nextEpoch = some { sec := 0, k := 1 } := by decide

theorem test_stopDrain :
    (after .stopDrain (asked 7 [0] (due 1 0 (station .active) [slotAt 0 .opened [] []]))).run = .draining ∧
      (after .stopDrain (asked 7 [2] (due 1 0 (station .active) []))).run = .running := by decide

theorem test_stopFlush :
    ((after .stopFlush (asked 7 [1] (due 2 20000000 (station .active)
      [slotAt 0 .opened [] [], slotAt 1 .opened [] []]))).window.map (·.status)) = [.due .flush] := by decide

/-- The frame in handling is UNKNOWN before the reset; the three that wait are DROPPED. -/
theorem test_resetEngine :
    let t := after .resetEngine (asked 8 [] { part [{ station .retiring with held := 1 }] with
      run := .running, handling := some (frameOf 1 0 0 0), fifo := List.replicate 3 (frameOf 1 0 0 0) })
    t.counters.dropped = 3 ∧ t.counters.unknown = 0 ∧ t.handling = none ∧ t.fifo = [] ∧ t.causes = 0 := by decide

theorem test_setEngineCauseMask :
    (after .setEngineCauseMask (asked 9 [63] { part [] with mask := 0 })).mask = 63 ∧
      (after .setEngineCauseMask (asked 9 [64] (part []))).port = answered 9 .range .none := by decide

theorem test_takeEngineCauses :
    (after .takeEngineCauses (asked 10 [] { part [] with causes := 5 })).port = answered 10 .done (.causes 5) := by decide

/-- ch9: which check decides. -/
theorem test_registerStream :
    (after .registerStream (asked 16 (id4 0 ++ [0, 60, 0, 3, 232, 0, 0]) (engine .running (station .active)))).port =
        answered 16 .range .none ∧
      (after .registerStream (asked 16 (id4 5001 ++ [0, 60, 0, 3, 232, 0, 0]) (engine .running (station .active)))).port =
        answered 16 .exist .none ∧
      (after .registerStream (asked 16 (id4 7700 ++ [0, 60, 0, 3, 232, 0, 0]) (engine .running (station .active)))).port =
        answered 16 .rate .none ∧
      (after .registerStream (asked 16 (id4 7700 ++ [1, 10, 0, 3, 232, 0, 0]) (engine .running (station .active)))).port =
        answered 16 .full .none := by decide

/-- ch9: which check decides. -/
theorem test_amendStream :
    (after .amendStream (asked 17 (id4 7000 ++ [11, 0, 0, 1, 5, 3]) (engine .running (station .active)))).port =
        answered 17 .malformed .none ∧
      (after .amendStream (asked 17 (id4 7000 ++ [5, 3]) (engine .running (station .active)))).port =
        answered 17 .notFound .none ∧
      (after .amendStream (asked 17 (id4 5001 ++ [5, 3]) (engine .running (station .active)))).port =
        answered 17 .range .none ∧
      ((after .amendStream (asked 17 (id4 5001 ++ [5, 8, 9, 1]) (engine .running (station .active)))).record 0) =
        { station .active with
          opts := { Options.default with causeEnable := 1 }
          amend := some { Amendment.empty with filterN := some 8 } } := by decide

theorem test_suspendStream :
    (after .suspendStream (asked 18 (id4 5001) (due 2 0 (station .active)
      [slotAt 1 .opened [(0, 5001)] []]))).emission =
      some { slotAt 1 (.due .complete) [] [] with snapshot := 1 } := by decide

theorem test_resumeStream :
    ((after .resumeStream (asked 19 (id4 5001) (engine .running (station .suspended)))).record 0).state = .pending ∧
      (after .resumeStream (asked 19 (id4 5001) (engine .running (station .active)))).port =
        answered 19 .state .none := by decide

theorem test_resetStream :
    ((after .resetStream (asked 20 (id4 5001) (engine .running (station .silent)))).record 0) =
      { station .pending with history := [], filtered := none } := by decide

theorem test_retireStream :
    (after .retireStream (asked 21 (id4 5001) (engine .running (station .active)))).port =
      .editing 21 7 (.removal 5001 0) := by decide

theorem test_lookupStream :
    (after .lookupStream (asked 22 (id4 5001) (engine .running (station .silent)))).port =
      answered 22 .done (.lookup 0 .silent) := by decide

theorem test_listStreams :
    (after .listStreams (asked 23 (id4 4000) { part [] with directory := [(3200, 1), (4410, 2), (5001, 0)] })).port =
      answered 23 .done (.pairs [(4410, 2), (5001, 0)] false) := by decide

theorem test_readStream :
    (after .readStream (asked 24 ([0] ++ id4 1024 ++ [1]) (part []))).port = answered 24 .range .none ∧
      (after .readStream (asked 24 ([1] ++ id4 5001 ++ [0]) (engine .running (station .active)))).port =
        answered 24 .done (.stream 0 (station .active)) := by decide

/-- ch10's first take: record 3's SILENT is found from the scan pointer 1023, and its LATE stays. -/
theorem test_takeStreamCauses :
    let s := asked 25 [] (part
      [Record.vacant, { Record.vacant with causes := StreamCause.misalign }, Record.vacant,
        { Record.vacant with streamId := 9, causes := StreamCause.silent ||| StreamCause.late }])
    (after .takeStreamCauses s).port = answered 25 .done (.taken 3 9 StreamCause.silent) ∧
      (after .takeStreamCauses s).scanPtr = 3 ∧ (after .takeStreamCauses s).attnS = false := by decide

/-- ch11's worked set of 187 bytes. -/
theorem test_set_length :
    let data (p a : Nat) : Measured :=
      { phasors := List.replicate p { magnitude := 0, angle := 0 }, freqDev := 0, rocof := 0
        analogs := List.replicate a 0, digital := 0 }
    let present (i p a : Nat) (extra : Bool) : SetEntry := .present { entry extra with index := i, data := data p a }
    ({ header := (buildSet 50 (slotAt 0 (.due .deadline) [] [])).header
       entries := [present 0 3 1 false, .absent 1 3200, present 2 1 0 true, present 3 3 1 true,
         present 5 6 4 false] } : AlignedSet).bytes.length = 187 := by decide +kernel

/-! ### Witnesses: states and operands that meet the hypotheses of the obligations, at the edges of their ranges -/

theorem test_witness_EmptyQueueStep :
    (({ part [] with resetAsserted := true }.pending = [] ∧ (part []).resetAsserted = false)) ∧
      (∀ n ∈ [999999984, 999999992], (LocalTime.mk 4294967295 n).valid) ∧ (LocalTime.mk 4294967294 999999992).valid :=
  ⟨by decide, by unfold LocalTime.valid; decide⟩

/-- The timeouts fall due with the period that completes them, and a tick and an expiry with their instants. -/
theorem test_events_of_a_period :
    [(374999998 : Nat), 374999999].map (fun n => { base .acquiring 0 0 n 0 with
        tb := (base .acquiring 0 0 n 0).tb.period }.timeouts) = [[], [.acquireTimeout]] ∧
      [19999984, 19999992].map (fun ns => (due 1 ns (station .active) []).clockPeriod.tickDue) = [[], [.epochTick]] ∧
      (due 9 145034000 (station .active) [slotAt 1 .opened [] [], slotAt 2 .opened [] []]).expiriesDue =
        [.deadlineExpiry { sec := 10, k := 1 }] := by decide

theorem test_witness_RowsWithoutTheirEvent :
    (let s := due 1 19999992 (station .active) [slotAt 0 .opened [] []]
     s.run = .running ∧ s.nextEpoch = some { sec := 10, k := 1 } ∧
       ¬ (Epoch.instant 50 { sec := 10, k := 1 }).atOrBefore s.time ∧
       ∀ sl ∈ s.window, sl.status = .opened ∧ ¬ sl.deadline.atOrBefore { sec := 10, ns := 125033999 }) ∧
      (part []).handling = none ∧ (part []).fifo = [] ∧ (part []).emission = none ∧
      (part []).transmitting = false ∧ (part []).port = .idle ∧
      (base .acquiring 0 0 374999999 0).tb.sinceCapture < 375000000 ∧
      (base .locked 2 0 187499999 0).tb.sinceCapture < 187500000 ∧
      (let b := { Timebase.reset with state := .holdover, inHoldover := 74999999999 }
       b.inHoldover * 8 < b.inForce.holdoverLimit * 1000000000) := by
  decide

theorem test_witness_IntervalsErrorsAndTargets :
    ([124999750, 125000250].map (fun n => (base .locked 2 0 n 0).tb.goodInterval) = [true, true] ∧
      [124999749, 125000251].map (fun n => (base .locked 2 0 n 0).tb.goodInterval) = [false, false]) ∧
      [499999999, 500000000].map phaseError = [499999999, -500000000] ∧
      (part []).tb.armed = none ∧
      ∀ t ∈ [LocalTime.mk 4294967295 499999992, ⟨4294967294, 500000000⟩, ⟨4294967295, 500000000⟩], t.valid :=
  ⟨by decide, by decide, rfl, by unfold LocalTime.valid; decide⟩

theorem test_witness_EdgesWithoutStep :
    (part []).tb.state = .free ∧
      (base .acquiring 1 0 124999749 0).tb.applyStaged.goodInterval = false ∧
      ((base .acquiring 0 0 124999750 0).tb.applyStaged.goodInterval = true ∧
        (base .acquiring 0 0 124999750 0).tb.good ≠ 1) ∧
      (∀ bad ∈ [0, 1], (base .locked 2 bad 125000251 0).tb.applyStaged.goodInterval = false ∧
        (base .locked 2 bad 125000000 1008).tb.applyStaged.inForce.stepLimit < (phaseError 1008).natAbs) ∧
      10000 < (phaseError 10008).natAbs := by decide

theorem test_witness_EdgesThatStep :
    ((base .acquiring 1 0 125000250 0).tb.applyStaged.goodInterval = true ∧
      (base .acquiring 1 0 125000250 0).tb.good = 1) ∧
      ((base .locked 2 0 125000000 1000).tb.applyStaged.goodInterval = true ∧
        (phaseError 1000).natAbs ≤ (base .locked 2 0 125000000 1000).tb.applyStaged.inForce.stepLimit) ∧
      (phaseError 999990000).natAbs ≤ 10000 := by decide

theorem test_witness_TimeoutsMoveTheTimebase :
    3000000000 ≤ (base .acquiring 0 0 375000000 0).tb.sinceCapture * 8 ∧
      1500000000 ≤ (base .locked 2 0 187500000 0).tb.sinceCapture * 8 ∧
      (let b := { Timebase.reset with state := .holdover, inHoldover := 75000000000 }
       b.inForce.holdoverLimit * 1000000000 ≤ b.inHoldover * 8) := by decide

/-- A forward step within second 10 that reaches no epoch, the next epoch, or a later one. -/
theorem test_witness_StepsOfLocalTime :
    let s := due 3 40000000 (station .active) []
    (¬ s.time.before s.time ∧ s.time.before { sec := 10, ns := 59999992 }) ∧
      (latestEpoch 50 { sec := 10, ns := 59999992 }).key 50 < Epoch.key 50 { sec := 10, k := 3 } ∧
      (latestEpoch 50 { sec := 10, ns := 60000000 }).key 50 = Epoch.key 50 { sec := 10, k := 3 } ∧
      Epoch.key 50 { sec := 10, k := 3 } < (latestEpoch 50 { sec := 10, ns := 80000000 }).key 50 ∧
      (part []).run ≠ .running := by decide

theorem test_witness_EpochsAroundALocalTime :
    (∀ t ∈ [LocalTime.mk 7 33333328, ⟨7, 33333336⟩, ⟨4294967295, 999999992⟩], t.valid) ∧
      firstEpochAfter 30 { sec := 7, ns := 33333328 } = some { sec := 7, k := 1 } ∧
      firstEpochAfter 30 { sec := 4294967295, ns := 999999992 } = none := by unfold LocalTime.valid; decide

theorem test_witness_TickOpensASlot :
    let s := due 1 20000000 (station .active) (List.replicate 63 (slotAt 0 .opened [] []))
    s.run = .running ∧ s.nextEpoch = some { sec := 10, k := 1 } ∧
      (Epoch.instant 50 { sec := 10, k := 1 }).atOrBefore s.time ∧ s.window.length < 64 := by decide +kernel

theorem test_witness_WhatATickDoesToRecords :
    (∀ st ∈ [RecState.free, .retiring, .active], ∃ m,
        { station st with amend := some Amendment.empty }.amend = some m ∧ (station st).amend = none) ∧
      rateExpected 10 50 4 = false ∧ rateExpected 10 50 5 = true ∧
      (∀ n ∈ [98, 99], (n + 1 < Options.default.silenceLimit ↔ n = 98)) ∧
      (∀ n ∈ [0, 1], { station .recovering with silence := n }.state = .recovering) := by
  refine ⟨fun st _ => ⟨Amendment.empty, rfl, rfl⟩, ?_⟩; decide

/-- A full window behind a DUE or an OPEN oldest slot, with the emission in flight or room for one. -/
theorem test_witness_TickAtAFullWindow :
    ∀ st ∈ [SlotStatus.opened, .due .complete],
      let s := due 1 20000000 (station .active) (slotAt 0 st [] [] :: List.replicate 63 (slotAt 0 .opened [] []))
      (s.run = .running ∧ (Epoch.instant 50 { sec := 10, k := 1 }).atOrBefore s.time ∧ s.window.length = 64) ∧
        s.hasRoom ∧ ¬ { s with emission := some (slotAt 0 (.due .complete) [] []) }.hasRoom ∧
        ¬ { s with egress := List.replicate 4 (buildSet 50 (slotAt 0 (.due .flush) [] [])) }.hasRoom := by
  unfold State.hasRoom; decide +kernel

theorem test_witness_RatesAndTheirEpochs :
    rateCompatible 10 50 = true ∧ rateCompatible 240 120 = true ∧ outputIndex 100 50 31 = none ∧
      outputIndex 100 50 30 = some 15 ∧ outputIndex 10 50 7 = some 35 := by decide

theorem test_witness_WaitCap : AlignSettings.reset.valid := by unfold AlignSettings.valid; decide

theorem test_witness_WaitOfASlot :
    ({ part [] with settings := { AlignSettings.reset with mode := .fixed } }.settings.mode = .fixed) ∧
      (∀ r ∈ (part [station .silent]).records, r.state ≠ .active) ∧
      (let s := part [station .active]
       s.settings.mode = .adaptive ∧
         (∃ r ∈ s.records, r.state = .active ∧ r.cls = .member ∧ r.filtered = some 100027) ∧
         (∀ r ∈ s.records, ∀ l ∈ r.filtered, l ≤ 100027) ∧
         100027 * (128 + s.settings.margin) ≤ 128 * 125034 ∧
         128 * 125034 < 100027 * (128 + s.settings.margin) + 128) := by decide

theorem test_witness_DeadlinesExpire :
    (4294967295 + (49 * 1000000000 / 50 + 19999 * 1000) / 1000000000 ≤ 4294967295 ∧
      4294967295 < 4294967295 + (49 * 1000000000 / 50 + 20000 * 1000) / 1000000000) ∧
      ∃ sl ∈ [slotAt 1 .opened [] []], sl.status = .opened ∧ sl.deadline.atOrBefore { sec := 10, ns := 145034000 } := by
  decide

theorem test_witness_FramesJoinAreDroppedAndTaken :
    { part [] with resetAsserted := true }.resetAsserted = true ∧ (part []).fifo.length < 256 ∧
      256 ≤ { part [] with fifo := List.replicate 256 (frameOf 1 0 0 0) }.fifo.length ∧
      (part []).handling = none ∧ (part []).editInFlight = false ∧
      { part [] with port := .editing 21 7 (.removal 5001 0) }.editInFlight = true := by decide +kernel

theorem test_witness_FrameLayoutReadsBack :
    let m : Measured :=
      { phasors := List.replicate 12 { magnitude := 65535, angle := 65535 }, freqDev := 65535, rocof := 65535
        analogs := List.replicate 4 65535, digital := 65535 }
    m.phasors.length ≤ 12 ∧ m.analogs.length ≤ 4 ∧
      (frameBytes 4294967295 4294967295 255 16777215 65535 m).length = 78 := by decide +kernel

theorem test_witness_FramesThatAreOnlyCounted :
    (handled 421250 (rotating .active)).handling = some (frameOf 5001 0 421250 0) ∧
      ¬ (part []).knows 5001 ∧ { frameOf 5001 0 0 0 with length := 3 }.streamId = 0 ∧
      (let d (st : RecState) (frac : Nat) (s : State → State) :=
         (s (handled frac (rotating st))).dispose (frameOf 5001 0 frac 0)
       d .suspended 421250 id = .refused 0 ∧ d .active 1000000 id = .shape 0 ∧
       d .active 421250 (fun s => { s with run := .stopped }) = .idle 0 ∧
       d .active 421250 (fun s => { s with settings := { s.settings with rout := 25 } }) = .decimated 0 ∧
       d .active 410000 id = .misaligned 0 ∧ d .active 440000 id = .ahead 0 ∧
       d .active 420000 (fun s => { s with window := [slotAt 21 .opened [] [entry true]] }) = .duplicate 0) := by
  refine ⟨rfl, by unfold State.knows; decide, by decide⟩

theorem test_witness_DispositionOfAFrame :
    (let s := handled 421250 (rotating .active)
     let f := frameOf 5001 0 421250 0
     s.lookup f.streamId = some 0 ∧ f.length = 22 + 4 * (s.record 0).p + 2 * (s.record 0).a ∧
       f.p = (s.record 0).p ∧ f.a = (s.record 0).a ∧ f.frac < (s.record 0).tb ∧ s.run ≠ .stopped ∧
       (∃ al, align s.settings (s.record 0) f = .aligned al)) ∧
      align { AlignSettings.reset with rout := 25 } (rotating .active) (frameOf 5001 0 421250 0) = .decimated ∧
      align AlignSettings.reset (rotating .active) (frameOf 5001 0 10000 0) = .misaligned := by
  refine ⟨⟨by decide, by decide, by decide, by decide, by decide, by decide, ?_⟩, by decide, by decide⟩
  exact ⟨_, rfl⟩

/-- A LATE frame finds its slot gone, a PLACED one finds it OPEN without its record's entry. -/
theorem test_witness_LateAndPlacedFrames :
    (∃ al, { handled 420000 (rotating .active) with window := [] }.dispose (frameOf 5001 0 420000 0) = .late 0 al) ∧
      (∃ al, (handled 420000 (rotating .active)).dispose (frameOf 5001 0 420000 0) = .placed 0 al) ∧
      (handled 420000 (rotating .active)).handling = some (frameOf 5001 0 420000 0) ∧
      (handled 420000 (rotating .active)).InOrder := by
  refine ⟨⟨_, rfl⟩, ⟨_, rfl⟩, rfl, ?_⟩
  unfold State.InOrder State.slots; decide

theorem test_witness_WhatAFrameTeaches :
    (List.replicate 8 100).length ≤ 8 ∧ syncLost 16384 = true ∧ (station .active).opts.qualityLimit < 16 := by decide

theorem test_witness_GridIndexAndResidual :
    gridIndex 989999 50 1000000 = 49 ∧ gridIndex 990000 50 1000000 = 50 ∧ gridIndex 10000 50 1000000 = 1 ∧
      roundHalfAway 5 2 = 3 ∧ roundHalfAway (-5) 2 = -3 := by decide

theorem test_witness_SnapRotateOrMisalign :
    let o := (rotating .active).opts
    [500000, 500001, -5000000, 5000001].map (alignFlag o) =
        [some .snapped, some .rotated, some .rotated, none] ∧
      alignFlag { o with rotate := false } 500001 = none ∧ freqInvalid 8192 = true ∧
      [usedDeviation 0 0xEC77, usedDeviation 0 0xEC78, usedDeviation 0 5000, usedDeviation 0 5001] =
        [-5000, -5000, 5000, 5000] := by decide

theorem test_witness_LatencyOfAFrame :
    latencyUs 10 421251 1000000 { sec := 10, ns := 421250992 } = 0 ∧
      latencyUs 10 0 1 { sec := 26, ns := 777215992 } = 16777215 ∧
      latencyUs 10 0 1 { sec := 26, ns := 777216000 } = 16777215 := by decide

theorem test_witness_DirectoryEditsComplete :
    (let s := { engine .running (station .active) with
       port := .editing 16 7 (.insertion 1
         { streamId := 3200, cls := .member, rs := 10, tb := 1, p := 0, a := 0, opts := Options.default }) }
     (∃ g, s.port = .editing 16 7 (.insertion 1 g) ∧ ∀ p ∈ s.directory, p.1 ≠ g.streamId) ∧
       (s.directory.map (·.1)).Pairwise (· < ·)) ∧
      { engine .running (station .active) with port := .editing 21 7 (.removal 5001 0) }.port =
        .editing 21 7 (.removal 5001 0) ∧
      (engine .running (station .active)).handling = none := ⟨⟨⟨_, rfl, by decide⟩, by decide⟩, rfl, rfl⟩

theorem test_witness_EmissionBegins :
    (let s := { part [] with
       egress := List.replicate 3 (buildSet 50 (slotAt 0 (.due .flush) [] []))
       window := [slotAt 1 (.due .complete) [] []] }
     s.hasRoom ∧ (slotAt 1 (.due .complete) [] []).status ≠ .opened) ∧
      (slotAt 1 .opened [] []).status = .opened ∧ (part []).window = [] :=
  ⟨⟨⟨rfl, by decide⟩, by decide⟩, rfl, rfl⟩

theorem test_witness_EmissionCompletes :
    let s := { part [] with run := .draining, emission := some (slotAt 0 (.due .flush) [] []) }
    s.emission = some (slotAt 0 (.due .flush) [] []) ∧ (slotAt 0 (.due .flush) [] []).status = .due .flush ∧
      s.window = [] ∧ { s with run := .running }.run ≠ .draining := by decide

theorem test_witness_TransmissionFollowsReady :
    let s := { part [] with ready := true, egress := [buildSet 50 (slotAt 0 (.due .flush) [] [])] }
    (s.egress ≠ [] ∧ s.transmitting = false ∧ s.ready = true) ∧ (part []).egress = [] ∧
      { s with transmitting := true }.transmitting = true := by decide

/-- Clauses of a byte held back, a byte of a header, a byte of a body, a last byte, and the end of an answer. -/
theorem test_witness_MessagesJoinAndAnswersEnd :
    ({ part [] with queue := List.replicate 8 (msg 5 []) }.mgmtReady = false ∧
      { part [] with queue := List.replicate 7 (msg 5 []) }.mgmtReady = true ∧
      { part [] with queue := List.replicate 8 (msg 5 []), reception := [1] }.mgmtReady = true ∧
      { part [] with resetAsserted := true }.mgmtReady = false) ∧
      (∃ kind tag len body, ([] ++ [5] : List Byte) ++ [7, 0] = kind :: tag :: len :: body ∧
        body.length = BitVec.toNat len) ∧
      (∃ kind tag len body, ([4, 7, 255] : List Byte) = kind :: tag :: len :: body ∧ body.length < BitVec.toNat len) ∧
      { part [] with queue := [msg 5 []] }.offers (msg 5 []) [] ∧
      { part [] with port := answered 5 .done .none }.port = answered 5 .done .none :=
  ⟨by decide, ⟨5, 7, 0, [], rfl, rfl⟩, ⟨4, 7, 255, [], rfl, by decide⟩, ⟨rfl, rfl⟩, rfl⟩

theorem test_witness_SetsAgreeWithTheirSlots :
    (slotAt 0 (.due .deadline) [(0, 5001), (4, 3200)] [entry false]).sound 50 := by
  unfold Slot.sound; decide

/-- A message asked of an idle part is the one the port offers. -/
theorem asked_offers (kind : Nat) (body : List Nat) (s : State) (idle : s.port = .idle) :
    (asked kind body s).offers (msg kind body) [] := ⟨idle, rfl⟩

theorem test_witness_OneCommandAtATime :
    (asked 6 [] (part [])).offers (msg 6 []) [] ∧ (msg 6 []).command = .start ∧ Instr.malformed ≠ (msg 6 []).command ∧
      (part []).queue = [] ∧ (∀ m ∈ [msg 7 [0], msg 7 [1], msg 7 [2], msg 7 []], m.kind.toNat = 7) ∧
      [msg 7 [0], msg 7 [1], msg 7 [2], msg 7 []].map Message.command = [.stopDrain, .stopFlush, .stopDrain, .stopDrain] :=
  ⟨⟨rfl, rfl⟩, rfl, by decide, rfl, by decide, by decide⟩

/-- A refused command: STOP with mode 2. -/
theorem test_witness_RefusedCommandsChangeNothing :
    (asked 7 [2] (part [])).offers (msg 7 [2]) [] ∧
      ∃ t, exec .stopDrain (asked 7 [2] (part [])) = .next t ∧ t.port = answered 7 .range .none :=
  ⟨⟨rfl, rfl⟩, _, rfl, rfl⟩

theorem test_witness_MalformedForms :
    (∀ k body, (asked k body (part [])).offers (msg k body) []) ∧
      ((msg 0 []).kind.toNat = 0 ∧ (∀ k ∈ [11, 15], 11 ≤ (msg k []).kind.toNat ∧ (msg k []).kind.toNat ≤ 15) ∧
        ∀ k ∈ [26, 255], 26 ≤ (msg k []).kind.toNat) ∧
      ((msg 2 []).items 0 16 22 = some [] ∧ (msg 2 [15, 0]).items 0 16 22 = none ∧
        (msg 3 [26, 0]).items 0 24 26 = none ∧ (msg 16 (List.replicate 10 0)).items 11 2 9 = none ∧
        (msg 17 (id4 1 ++ [5, 4, 5, 8])).items 4 1 9 = none ∧
        (msg 17 (id4 1 ++ List.replicate 29 1)).items 4 1 9 = none) ∧
      (∀ row ∈ fixedLengths, (msg row.2.1 []).kind.toNat = row.2.1 ∧
        (msg row.2.1 (List.replicate (row.2.2 + 1) 0)).len ≠ row.2.2) := by
  refine ⟨fun k body => asked_offers k body _ rfl, ?_⟩
  decide +kernel

theorem test_witness_ItemLists :
    parseItems 1 9 [5, 8, 3, 0x13, 0x88] = some [(5, 8), (3, 5000)] ∧
      [(5, 8), (3, 5000)].Perm [(3, 5000), (5, 8)] := ⟨by decide, by decide⟩

theorem test_witness_ReadEngineReports :
    ∀ v ∈ [0, 1, 2], (asked 1 [v] (part [])).offers (msg 1 [v]) [] ∧ (msg 1 [v]).kind.toNat = 1 ∧
      (msg 1 [v]).len = 1 ∧ fieldAt (msg 1 [v]).body 0 1 = v := by
  unfold State.offers; decide

theorem test_witness_ConfigureAlignmentChecksInOrder :
    (∀ run r, (asked 2 [16, 25] (engine run r)).offers (msg 2 [16, 25]) []) ∧ (msg 2 [16, 25]).kind.toNat = 2 ∧
      (msg 2 [16, 25]).items 0 16 22 = some [(16, 25)] ∧ itemInRange (16, 25) = true ∧
      itemInRange (16, 24) = false ∧
      (AlignSettings.reset.withItems [(20, 10000000)]).wMax < (AlignSettings.reset.withItems [(20, 10000000)]).wMin ∧
      AlignSettings.reset.wMin ≤ AlignSettings.reset.wMax ∧
      (let s := engine .stopped (station .silent)
       (s.record 0).state ≠ .free ∧ rateCompatible (s.record 0).rs 60 = false ∧
         rateCompatible (s.record 0).rs 25 = true) := by
  refine ⟨fun _ _ => asked_offers _ _ _ rfl, ?_⟩; decide

theorem test_witness_TimebaseCommands :
    ((∀ body, (asked 3 body (part [])).offers (msg 3 body) []) ∧ (msg 3 []).kind.toNat = 3 ∧
      (msg 3 []).items 0 24 26 = some [] ∧ (msg 3 [26, 14, 16]).items 0 24 26 = some [(26, 3600)] ∧
      itemInRange (26, 3600) = true ∧ itemInRange (26, 3601) = false) ∧
      (∀ run ∈ [RunState.stopped, .running],
        (asked 4 (id4 4294967295) (engine run (station .active))).offers (msg 4 (id4 4294967295)) [] ∧
          (msg 4 (id4 4294967295)).kind.toNat = 4 ∧ (msg 4 (id4 4294967295)).len = 4) ∧
      ((part []).tb.state = .free ∧ (base .locked 2 0 0 0).tb.state ≠ .free ∧ (msg 4 []).len ≠ 4) ∧
      (asked 5 [] (part [])).offers (msg 5 []) [] ∧ (msg 5 []).kind.toNat = 5 ∧ (msg 5 []).len = 0 := by
  refine ⟨⟨fun _ => asked_offers _ _ _ rfl, ?_⟩, ?_⟩ <;> [skip; unfold State.offers] <;> decide

theorem test_witness_StartAndStop :
    (∀ run ∈ [RunState.stopped, .running, .draining],
      let s := engine run (station .active)
      ((asked 6 [] s).offers (msg 6 []) [] ∧ (msg 6 []).kind.toNat = 6 ∧ (msg 6 []).len = 0) ∧
        (∀ v ∈ [0, 1, 2], (asked 7 [v] s).offers (msg 7 [v]) [] ∧ (msg 7 [v]).kind.toNat = 7 ∧
          (msg 7 [v]).len = 1 ∧ fieldAt (msg 7 [v]).body 0 1 = v) ∧
        s.window = [] ∧ s.emission = none ∧ { s with window := [slotAt 0 .opened [] []] }.window ≠ []) := by
  unfold State.offers; decide

theorem test_witness_ResetEngineAndCauses :
    (∀ k ∈ [8, 10], (asked k [] (part [])).offers (msg k []) [] ∧ (msg k []).kind.toNat = k ∧ (msg k []).len = 0) ∧
      (∀ v ∈ [63, 64], (asked 9 [v] (part [])).offers (msg 9 [v]) [] ∧ (msg 9 [v]).kind.toNat = 9 ∧
        (msg 9 [v]).len = 1 ∧ fieldAt (msg 9 [v]).body 0 1 = v) ∧
      (0b111111 : CauseSet).toNat = 63 := by
  unfold State.offers; decide

theorem test_witness_RegisterChecksInOrder :
    let body := id4 3200 ++ [0, 10, 0, 3, 232, 12, 4, 9, 63]
    let m := msg 16 body
    ((∀ rs, (asked 16 body (part rs)).offers m []) ∧ m.kind.toNat = 16 ∧ m.items 11 2 9 = some [(9, 63)] ∧
      itemInRange (9, 63) = true) ∧
      (let g := Registration.ofBody m.body [(9, 63)]
       g.streamId ≠ 0 ∧ fieldAt m.body 4 1 ≤ 1 ∧ g.rs ∈ streamRates ∧ g.tb ≠ 0 ∧ g.p ≤ 12 ∧ g.a ≤ 4 ∧
         rateCompatible g.rs 50 = true ∧ rateCompatible g.rs 25 = false) ∧
      ({ part [] with directory := [(3200, 0)] }.knows 3200 ∧ ¬ (engine .stopped (station .active)).knows 3200) ∧
      (let s := part [station .active, Record.vacant]
       (s.record 1).state = .free ∧ ∀ j < 1, (s.record j).state ≠ .free) ∧
      ∀ r ∈ (part [station .active]).records, r.state ≠ .free := by
  refine ⟨⟨fun _ => asked_offers _ _ _ rfl, by decide⟩, by decide, by unfold State.knows; decide, ?_⟩; decide

theorem test_witness_AmendAppliesOrStages :
    (∀ run ∈ [RunState.stopped, .running],
      (asked 17 (id4 5001 ++ [5, 8, 9, 1]) (engine run (station .active))).offers (msg 17 (id4 5001 ++ [5, 8, 9, 1])) []) ∧
      (msg 17 (id4 5001)).kind.toNat = 17 ∧
      (msg 17 (id4 5001 ++ [5, 8, 9, 1])).items 4 1 9 = some [(5, 8), (9, 1)] ∧
      (msg 17 (id4 5001 ++ [9, 1])).items 4 1 9 = some [(9, 1)] ∧
      (msg 17 (id4 5001)).items 4 1 9 = some [] ∧
      (engine .running (station .active)).lookup (fieldAt (msg 17 (id4 5001)).body 0 4) = some 0 ∧
      itemInRange (5, 3) = false ∧ itemInRange (5, 8) = true ∧ itemInRange (9, 1) = true := by
  unfold State.offers; decide

theorem test_witness_StreamCommands :
    (∀ k ∈ [18, 19, 20, 21, 22], ∀ st ∈ [RecState.pending, .active, .suspended],
      (asked k (id4 5001) (engine .running (station st))).offers (msg k (id4 5001)) [] ∧
        (msg k (id4 5001)).kind.toNat = k ∧ (msg k (id4 5001)).len = 4 ∧
        fieldAt (msg k (id4 5001)).body 0 4 = 5001 ∧ (engine .running (station st)).lookup 5001 = some 0 ∧
        (5001, 0) ∈ (engine .running (station st)).directory) ∧
      (let sl := slotAt 1 .opened [(0, 5001)] []
       sl.expects 0 = true ∧ sl.hasEntry 0 = false ∧ sl.snapshot ≠ 0 ∧
         (∀ m ∈ sl.expected.filter (fun m => m.1 != 0), sl.hasEntry m.1 = true) ∧
         { sl with snapshot := 0 }.snapshot = 0) := by
  unfold State.offers; decide

theorem test_witness_LookupAndList :
    (∀ n ∈ [16, 17],
      let s := asked 23 (id4 0) { part [] with directory := (List.range n).map (fun i => (i, i)) }
      s.offers (msg 23 (id4 0)) [] ∧ (msg 23 (id4 0)).kind.toNat = 23 ∧ (msg 23 (id4 0)).len = 4 ∧
        (s.directory.filter (fun p => fieldAt (msg 23 (id4 0)).body 0 4 ≤ p.1)).length = n) := by
  unfold State.offers; decide

theorem test_witness_ReadStream :
    (∀ v ∈ [([0] ++ id4 1023 ++ [1], 0, 1023, 1), ([0] ++ id4 1024 ++ [0], 0, 1024, 0),
        ([1] ++ id4 5001 ++ [0], 1, 5001, 0), ([2] ++ id4 0 ++ [2], 2, 0, 2)],
      let s := engine .running (station .active)
      (asked 24 v.1 s).offers (msg 24 v.1) [] ∧ (msg 24 v.1).kind.toNat = 24 ∧ (msg 24 v.1).len = 6 ∧
        fieldAt (msg 24 v.1).body 0 1 = v.2.1 ∧ fieldAt (msg 24 v.1).body 1 4 = v.2.2.1 ∧
        fieldAt (msg 24 v.1).body 5 1 = v.2.2.2) ∧
      (engine .running (station .active)).lookup 5001 = some 0 := by
  unfold State.offers; decide

/-- One record of 1,024 has a cause, and the search ends at it. -/
theorem test_witness_TakeStreamCauses :
    let s := asked 25 [] { part
      ({ Record.vacant with causes := StreamCause.silent } :: List.replicate 1023 Record.vacant) with scanPtr := 0 }
    (s.offers (msg 25 []) [] ∧ (msg 25 []).kind.toNat = 25 ∧ (msg 25 []).len = 0) ∧ s.records.length = 1024 ∧
      s.scanPtr < 1024 ∧ 0 = (s.scanPtr + 1 + 1023) % 1024 ∧
      (s.record 0).causes &&& (s.record 0).opts.causeEnable ≠ 0 ∧
      ∀ d < 1023, (s.record ((s.scanPtr + 1 + d) % 1024)).causes &&&
        (s.record ((s.scanPtr + 1 + d) % 1024)).opts.causeEnable = 0 := by
  refine ⟨⟨⟨rfl, rfl⟩, by decide, by decide⟩, congrArg (· + 1) List.length_replicate, by decide, by decide, by decide,
    fun d h => ?_⟩
  have place : (0 + 1 + d) % 1024 = d + 1 := by omega
  have vacant : (List.replicate 1023 Record.vacant).getD d Record.vacant = Record.vacant := by
    rw [List.getD_eq_getElem?_getD, List.getElem?_replicate]; split <;> rfl
  show (((_ :: List.replicate 1023 Record.vacant).getD ((0 + 1 + d) % 1024) Record.vacant).causes &&&
    ((_ :: List.replicate 1023 Record.vacant).getD ((0 + 1 + d) % 1024) Record.vacant).opts.causeEnable) = 0
  rw [place, List.getD_cons_succ, vacant]
  decide

/-- For each kind of owned state, a command that changes it. -/
theorem test_witness_OwnersOfTheState :
    (after .setEngineCauseMask (asked 9 [1] (part []))).mask ≠ (part []).mask ∧
      (after .setTime (asked 4 (id4 5) (part []))).time ≠ (part []).time ∧
      (after .start (asked 6 [] (part []))).run ≠ (part []).run ∧
      (after .readyAssert (part [])).ready ≠ (part []).ready := by decide

theorem test_witness_LengthsAndBytesOnTheWire :
    (ReturnFields.stream 1023
      { station .active with
        history := List.replicate 8 16777215
        amend := some
          { cls := some .guest, rotate := some true, tau := some 5000, rho := some 10000, filterN := some 8,
            silenceLimit := some 255, qualityLimit := some 15, watchMask := some 65535 } }).bytes.length = 116 := by
  decide +kernel

/-! ### A running part that meets every invariant -/

/-- Second 10 at Rout = 50: epoch 0's set is being emitted, epoch 1's slot is complete and waits, epoch 2's is open. -/
def busy : State :=
  { State.reset with
    time := { sec := 10, ns := 45000000 }
    records := { station .active with held := 1 } :: List.replicate 1023 Record.vacant
    directory := [(5001, 0)], run := .running, nextEpoch := some { sec := 10, k := 3 }
    newest := some { epoch := { sec := 10, k := 2 }, wait := 125034 }
    emission := some (slotAt 0 (.due .deadline) [(0, 5001)] [])
    window := [slotAt 1 (.due .complete) [(0, 5001)] [entry false], slotAt 2 .opened [(0, 5001)] []] }

/-- Every record of `busy` but the first is vacant. -/
theorem busy_record_succ (i : Nat) : busy.record (i + 1) = Record.vacant := by
  show (List.replicate 1023 Record.vacant).getD i Record.vacant = Record.vacant
  rw [List.getD_eq_getElem?_getD, List.getElem?_replicate]
  split <;> rfl

theorem busy_length : busy.records.length = 1024 := congrArg (· + 1) List.length_replicate

theorem test_busy_steps : ∃ t, step busy = .next t ∧ ∃ u, step { busy with pending := [.epochTick] } = .next u :=
  ⟨_, rfl, _, rfl⟩

theorem test_witness_CapacitiesKept : busy.WithinCapacity := by
  refine ⟨busy_length, by decide, by decide, by decide, by decide, by decide, by decide, by decide, by decide⟩

theorem test_witness_RunOrderKept : busy.Running := by
  unfold State.Running State.InRange LocalTime.valid Timebase.valid TbSettings.valid TbStaged.valid AlignSettings.valid
    State.RunConsistent State.InOrder State.slots
  decide

/-- Two sets stand in the buffer: one of an earlier run, and one of this run. -/
theorem test_witness_SetsInOrder :
    { busy with egress := [buildSet 50 (slotAt 2 (.due .flush) [] []),
        buildSet 50 { slotAt 0 (.due .deadline) [] [] with epoch := { sec := 9, k := 49 } }] }.SetsInOrder 1 := by
  unfold State.SetsInOrder State.slots; decide

theorem test_witness_RegistryKept : busy.Registered := by
  refine ⟨test_witness_RunOrderKept, ⟨busy_length, by decide, by decide, ?_, trivial⟩, ?_⟩
  · rintro (_ | i) _ h
    · decide
    · rw [busy_record_succ] at h; exact absurd h (by decide)
  · rintro (_ | i) _
    · decide
    · rw [busy_record_succ]
      exact ⟨rfl, by decide, fun _ => rfl⟩

theorem test_witness_RecordsKept : busy.RecordsValid ∧ busy.RatesFit := by
  have all : ∀ r ∈ busy.records, r = { station .active with held := 1 } ∨ r = Record.vacant := by
    intro r h
    rcases List.mem_cons.1 h with h | h
    · exact .inl h
    · exact .inr (List.eq_of_mem_replicate h)
  refine ⟨⟨fun r h => ?_, trivial⟩, fun r h => ?_, trivial⟩ <;> rcases all r h with rfl | rfl
  · unfold Record.valid Options.valid Record.healthy Amendment.valid; decide
  · unfold Record.valid Options.valid Record.healthy Amendment.valid; decide
  · decide
  · decide

theorem test_witness_SlotsKept : busy.SlotsSound := by
  refine ⟨test_witness_RunOrderKept, ?_, by decide, fun _ h => absurd h List.not_mem_nil⟩
  unfold State.slots Slot.sound
  decide

end Sys2Proof.Tests
end

/-! The proofs of the statements on the registry's reading commands (LOOKUP, LIST and READ STREAM) and on power-on. -/

namespace Sys2Proof.Machine

/-! ### A command that its row starts -/

/-- R164: the row of a kind carries out the oldest message when it is of that kind, gone from the queue. -/
theorem State.startCommand_isKind {s : State} {m : Message} {rest : List Message} {kind : Nat} (h : s.offers m rest)
    (hk : m.kind.toNat = kind) (body : Message → State → State) :
    State.startCommand (Message.isKind kind) body s = body m { s with queue := rest } := by
  have starts : Message.isKind kind m = true := beq_iff_eq.2 hk
  rw [State.startCommand_offers h, if_pos starts]

/-- R164, R166: of the right length, the message passes the form check of a command of one length. -/
theorem State.startCommand_withLength {s : State} {m : Message} {rest : List Message} {kind len : Nat}
    (h : s.offers m rest) (hk : m.kind.toNat = kind) (hl : m.len = len) (body : Message → State → State) :
    State.startCommand (Message.isKind kind) (withLength len body) s = body m { s with queue := rest } :=
  (State.startCommand_isKind h hk _).trans (withLength_eq hl body _)

/-- R8: a command on a stream that the directory knows acts on the record of its pair. -/
theorem State.startCommand_known {s : State} {m : Message} {rest : List Message} {kind len offset i : Nat}
    (h : s.offers m rest) (hk : m.kind.toNat = kind) (hl : m.len = len)
    (hi : s.lookup (fieldAt m.body offset 4) = some i) (body : Nat → Message → State → State) :
    State.startCommand (Message.isKind kind) (withLength len (withStream offset body)) s =
      body i m { s with queue := rest } :=
  (State.startCommand_withLength h hk hl _).trans (withStream_known (s := { s with queue := rest }) hi body)

/-- R8: a command on a stream that the directory does not know is answered NOT_FOUND and changes nothing else. -/
theorem State.startCommand_unknown {s : State} {m : Message} {rest : List Message} {kind len offset : Nat}
    (h : s.offers m rest) (hk : m.kind.toNat = kind) (hl : m.len = len)
    (hid : ¬ s.knows (fieldAt m.body offset 4)) (body : Nat → Message → State → State) :
    State.startCommand (Message.isKind kind) (withLength len (withStream offset body)) s =
      s.replied m rest .notFound .none :=
  (State.startCommand_withLength h hk hl _).trans (withStream_unknown (s := { s with queue := rest }) hid body)

/-! ### The directory -/

/-- R10: as the IDs ascend, an ID stands in one pair, and the lookup of the ID finds that pair. -/
theorem State.lookup_eq_some_of_mem {s : State} {id i : Nat} (hasc : (s.directory.map (·.1)).Pairwise (· < ·))
    (hmem : (id, i) ∈ s.directory) : s.lookup id = some i := by
  cases found : s.lookup id with
  | none => exact absurd ⟨(id, i), hmem, rfl⟩ (State.lookup_eq_none.1 found)
  | some j =>
    have distinct : (s.directory.map (·.1)).Nodup := hasc.imp Nat.ne_of_lt
    have same : (id, j) = (id, i) :=
      List.inj_on_of_nodup_map distinct (State.lookup_mem found) hmem rfl
    exact congrArg (fun p => some p.2) same

theorem RecState.inDirectory_iff (st : RecState) :
    st.inDirectory = true ↔
      st = .pending ∨ st = .active ∨ st = .silent ∨ st = .recovering ∨ st = .suspended := by
  cases st <;> decide

/-- R15: the pairs that LIST STREAMS gives come in the directory's order. -/
theorem State.pairsFrom_ascending {s : State} (start : Nat) (hasc : (s.directory.map (·.1)).Pairwise (· < ·)) :
    ((s.pairsFrom start).map (·.1)).Pairwise (· < ·) :=
  hasc.sublist (List.filter_sublist.map _)

/-! ### LOOKUP, LIST and READ STREAM -/

/-- R14: LOOKUP STREAM of an ID that the directory knows. -/
theorem exec_lookupStream_known {s : State} {m : Message} {rest : List Message} {i : Nat} (h : s.offers m rest)
    (hk : m.kind.toNat = 22) (hl : m.len = 4) (hi : s.lookup (fieldAt m.body 0 4) = some i) :
    exec .lookupStream s = .next (s.replied m rest .done (.lookup i (s.record i).state)) :=
  congrArg Host.Outcome.next (State.startCommand_known h hk hl hi _)

/-- R8, R14: LOOKUP STREAM of an ID that the directory does not know. -/
theorem exec_lookupStream_unknown {s : State} {m : Message} {rest : List Message} (h : s.offers m rest)
    (hk : m.kind.toNat = 22) (hl : m.len = 4) (hid : ¬ s.knows (fieldAt m.body 0 4)) :
    exec .lookupStream s = .next (s.replied m rest .notFound .none) :=
  congrArg Host.Outcome.next (State.startCommand_unknown h hk hl hid _)

/-- R15, R178: LIST STREAMS, the "more" flag telling whether pairs are left out. -/
theorem exec_listStreams_offers {s : State} {m : Message} {rest : List Message} (h : s.offers m rest)
    (hk : m.kind.toNat = 23) (hl : m.len = 4) :
    exec .listStreams s = .next (s.replied m rest .done
      (.pairs ((s.pairsFrom (fieldAt m.body 0 4)).take 16)
        (decide (16 < (s.pairsFrom (fieldAt m.body 0 4)).length)))) :=
  congrArg Host.Outcome.next (State.startCommand_withLength h hk hl _)

/-- R179: past its form check READ STREAM does what `readStreamBody` says. -/
theorem exec_readStream_offers {s : State} {m : Message} {rest : List Message} (h : s.offers m rest)
    (hk : m.kind.toNat = 24) (hl : m.len = 6) :
    exec .readStream s = .next (readStreamBody m { s with queue := rest }) :=
  congrArg Host.Outcome.next (State.startCommand_withLength h hk hl _)

theorem readStreamBody_badByte {m : Message} (h : 1 < fieldAt m.body 0 1 ∨ 1 < fieldAt m.body 5 1) (s : State) :
    readStreamBody m s = s.answer m .range .none := if_pos h

/-- R9: past its selector and clear bytes, READ STREAM by index reads any record there is. -/
theorem readStreamBody_byIndex {m : Message} (hsel : fieldAt m.body 0 1 = 0) (hclr : fieldAt m.body 5 1 ≤ 1)
    (s : State) :
    readStreamBody m s =
      if fieldAt m.body 1 4 < 1024 then readRecord (fieldAt m.body 5 1 == 1) (fieldAt m.body 1 4) m s
      else s.answer m .range .none := by
  have good : ¬ (1 < fieldAt m.body 0 1 ∨ 1 < fieldAt m.body 5 1) := by omega
  exact (if_neg good).trans (if_pos hsel)

/-- R8, R179: past its selector and clear bytes, READ STREAM by ID reads the record of the ID's pair. -/
theorem readStreamBody_byId {m : Message} (hsel : fieldAt m.body 0 1 = 1) (hclr : fieldAt m.body 5 1 ≤ 1)
    (s : State) : readStreamBody m s = withStream 1 (readRecord (fieldAt m.body 5 1 == 1)) m s := by
  have good : ¬ (1 < fieldAt m.body 0 1 ∨ 1 < fieldAt m.body 5 1) := by omega
  have named : fieldAt m.body 0 1 ≠ 0 := by omega
  exact (if_neg good).trans (if_neg named)

/-- R8, R9: the record that READ STREAM names: an index of the registry, or the index of the named ID's pair. -/
def State.readNames (m : Message) (i : Nat) (s : State) : Prop :=
  (fieldAt m.body 0 1 = 0 ∧ fieldAt m.body 1 4 = i ∧ i ≤ 1023) ∨
    (fieldAt m.body 0 1 = 1 ∧ s.lookup (fieldAt m.body 1 4) = some i)

/-- R9, R179: by index or by ID, READ STREAM reads the record it names. -/
theorem readStreamBody_named {m : Message} {i : Nat} {s : State} (h : s.readNames m i)
    (hclr : fieldAt m.body 5 1 ≤ 1) : readStreamBody m s = readRecord (fieldAt m.body 5 1 == 1) i m s := by
  rcases h with ⟨hsel, rfl, hle⟩ | ⟨hsel, hi⟩
  · rw [readStreamBody_byIndex hsel hclr, if_pos (Nat.lt_succ_of_le hle)]
  · rw [readStreamBody_byId hsel hclr, withStream_known hi]

/-! ### Power-on -/

/-- R6: every record after reset is vacant, and an index beyond the registry reads so too. -/
theorem State.reset_record (i : Nat) : State.reset.record i = Record.vacant := by
  show (List.replicate 1024 Record.vacant).getD i Record.vacant = Record.vacant
  rw [List.getD_eq_getElem?_getD, List.getElem?_replicate]
  split <;> rfl

/-- R190: both attention lines are deasserted while the reset input is asserted. -/
theorem State.lines_of_resetAsserted {s : State} (h : s.resetAsserted = true) :
    s.attnS = false ∧ s.attnE = false := by
  simp [State.attnS, State.attnE, h]

/-! ### The statements -/

/-- Settles O49: as the IDs ascend, a pair of the directory is the one that the lookup finds; and the list kept up to 16
is the whole list exactly when no more follow. -/
theorem lookupAndList : Obligations.LookupAndList := by
  unfold Obligations.LookupAndList
  refine ⟨fun s m rest h hk hl => ⟨?known, exec_lookupStream_unknown h hk hl⟩, ?list⟩
  case known =>
    rintro i ⟨-, hasc, hpairs, -⟩ hmem
    obtain ⟨-, -, hstate, -⟩ := hpairs _ hmem
    exact ⟨exec_lookupStream_known h hk hl (State.lookup_eq_some_of_mem hasc hmem),
      (RecState.inDirectory_iff _).1 hstate⟩
  case list =>
    intro s m rest found h hk hl (hfound : found = s.pairsFrom (fieldAt m.body 0 4))
    rw [exec_listStreams_offers h hk hl, ← hfound]
    refine ⟨fun few => ?_, fun many => ?_, ?_⟩
    · rw [List.take_of_length_le few, decide_eq_false (Nat.not_lt.2 few)]
    · rw [decide_eq_true many]
    · rintro ⟨-, hasc, -⟩
      exact hfound ▸ State.pairsFrom_ascending _ hasc

/-- Settles O50: READ STREAM past its form check, by what its selector and clear bytes are. -/
theorem readStreamReturnsTheRecord : Obligations.ReadStreamReturnsTheRecord := by
  unfold Obligations.ReadStreamReturnsTheRecord
  intro s m rest h hk hl
  rw [exec_readStream_offers h hk hl]
  refine ⟨fun bad => ?_, fun hsel hclr beyond => ?_, fun hsel hclr unknown => ?_,
    fun i names => ⟨fun keep => ?_, fun clear => ?_⟩⟩
  · rw [readStreamBody_badByte bad, State.answer_started]
  · rw [readStreamBody_byIndex hsel hclr, if_neg (by omega), State.answer_started]
  · rw [readStreamBody_byId hsel hclr, withStream_unknown (s := { s with queue := rest }) unknown,
      State.answer_started]
  · rw [readStreamBody_named (s := { s with queue := rest }) names (by omega), keep]
    rfl
  · rw [readStreamBody_named (s := { s with queue := rest }) names (by omega), clear]
    rfl

/-- Settles O5: POWER_ON leaves the state of reset under an asserted reset input, so each field has its written value;
what is computed of the state (a record by index, the attention lines) follows from the records and the input. -/
theorem powerOnEmptiesThePart : Obligations.PowerOnEmptiesThePart := by
  unfold Obligations.PowerOnEmptiesThePart
  refine ⟨rfl, fun s => ⟨_, rfl, ?_⟩⟩
  have held : ∀ i, (State.reset.record i).held = 0 := fun i => congrArg Record.held (State.reset_record i)
  refine ⟨rfl, held, rfl, rfl, rfl, rfl, rfl, rfl, rfl, rfl, rfl, rfl, rfl, rfl, rfl, rfl, rfl, rfl, rfl, rfl, rfl, rfl,
    State.lines_of_resetAsserted rfl⟩

end Sys2Proof.Machine

/-! The proofs of the statements on the grid, the residual and the latency of the alignment arithmetic. -/

namespace Sys2Proof.Machine

/-! ### Rounding half away from zero -/

/-- The size of a rounded quotient is the size of the quotient rounded half up. -/
theorem natAbs_roundHalfAway (num : Int) (den : Nat) :
    (roundHalfAway num den).natAbs = (2 * num.natAbs + den) / (2 * den) := by
  unfold roundHalfAway
  split
  · rw [Int.natAbs_neg, Int.natAbs_natCast]
  · rw [Int.natAbs_natCast]

/-- A rounded quotient keeps the sign, so what it leaves is the difference of the sizes. -/
theorem natAbs_sub_roundHalfAway_mul (num : Int) (den : Nat) :
    (num - roundHalfAway num den * den).natAbs =
      ((num.natAbs : Int) - ((roundHalfAway num den).natAbs * den : Nat)).natAbs := by
  rw [natAbs_roundHalfAway, Nat.cast_mul]
  dsimp only [roundHalfAway]
  generalize (2 * num.natAbs + den) / (2 * den) = q
  split
  next negative => rw [Int.neg_mul]; omega
  next nonneg => omega

/-- Rounded half up: a size lies less than half a divisor above its rounding and at most half a divisor below. -/
theorem roundHalfAway_bracket (num : Int) {den : Nat} (hden : 0 < den) :
    2 * ((roundHalfAway num den).natAbs * den) ≤ 2 * num.natAbs + den ∧
      2 * num.natAbs < 2 * ((roundHalfAway num den).natAbs * den) + den := by
  rw [natAbs_roundHalfAway]
  have below := Nat.div_mul_le_self (2 * num.natAbs + den) (2 * den)
  have above := Nat.lt_div_mul_add (a := 2 * num.natAbs + den) (b := 2 * den) (by omega)
  rw [Nat.mul_left_comm] at below above
  omega

/-- ch0, "Division and rounding": the rounded quotient is a nearest integer. -/
theorem roundHalfAway_nearest (num : Int) {den : Nat} (hden : 0 < den) :
    2 * (num - roundHalfAway num den * den).natAbs ≤ den := by
  have bracket := roundHalfAway_bracket num hden
  rw [natAbs_sub_roundHalfAway_mul]
  omega

/-- ch0, "Division and rounding": halfway, the rounded quotient is the integer farther from zero. -/
theorem roundHalfAway_farther (num : Int) {den : Nat} (hden : 0 < den)
    (half : 2 * (num - roundHalfAway num den * den).natAbs = den) :
    num.natAbs < (roundHalfAway num den * den).natAbs := by
  have bracket := roundHalfAway_bracket num hden
  rw [natAbs_sub_roundHalfAway_mul] at half
  rw [Int.natAbs_mul, Int.natAbs_natCast]
  omega

theorem roundHalfAway_natCast (a b : Nat) : roundHalfAway a b = ((2 * a + b) / (2 * b) : Nat) := by
  have nonneg : ¬ (a : Int) < 0 := by omega
  unfold roundHalfAway
  rw [Int.natAbs_natCast]
  exact if_neg nonneg

/-- Rounding keeps the order of quotients: a quotient no greater in size than `a / b` is rounded to no greater a size. -/
theorem natAbs_roundHalfAway_le {num : Int} {den a b : Nat} (hden : 0 < den) (hb : 0 < b)
    (h : num.natAbs * b ≤ a * den) : ((roundHalfAway num den).natAbs : Int) ≤ roundHalfAway a b := by
  rw [roundHalfAway_natCast, Int.ofNat_le, Nat.le_div_iff_mul_le (by omega)]
  have ⟨below, _⟩ := roundHalfAway_bracket num hden
  have scaled := Nat.mul_le_mul_right b below
  refine Nat.le_of_mul_le_mul_right ?_ hden
  linarith

/-! ### The grid index and the residual -/

/-- R68: the grid point lies at most half an interval above the instant and less than half an interval below. -/
theorem gridIndex_bracket (frac rs : Nat) {tb : Nat} (htb : 0 < tb) :
    2 * gridIndex frac rs tb * tb ≤ 2 * frac * rs + tb ∧
      2 * frac * rs + tb < 2 * (gridIndex frac rs tb + 1) * tb := by
  have below := Nat.div_mul_le_self (2 * frac * rs + tb) (2 * tb)
  have above := Nat.lt_div_mul_add (a := 2 * frac * rs + tb) (b := 2 * tb) (by omega)
  unfold gridIndex
  constructor <;> linarith

/-- R68: an instant within the second has a grid index from 0 to Rs. -/
theorem gridIndex_le {frac tb : Nat} (rs : Nat) (h : frac < tb) : gridIndex frac rs tb ≤ rs := by
  have within : frac * rs ≤ tb * rs := Nat.mul_le_mul_right rs h.le
  refine Nat.lt_succ_iff.1 ((Nat.div_lt_iff_lt_mul (by omega)).2 ?_)
  linarith

/-- R70: the residual lies from −TB/2 up to but not including TB/2. -/
theorem residualUnits_bracket (frac rs : Nat) {tb : Nat} (htb : 0 < tb) :
    -(tb : Int) ≤ 2 * residualUnits frac rs tb ∧ 2 * residualUnits frac rs tb < tb := by
  have ⟨below, above⟩ := gridIndex_bracket frac rs htb
  unfold residualUnits
  zify at below above
  push_cast
  constructor <;> linarith

/-- R69: before the last half interval the frame stays in its second. -/
theorem epochSecond_wrappedIndex_of_lt {frac rs tb : Nat} (soc : Nat) (h : gridIndex frac rs tb < rs) :
    epochSecond soc frac rs tb = soc ∧ wrappedIndex frac rs tb = gridIndex frac rs tb :=
  ⟨if_neg h.ne, if_neg h.ne⟩

/-- R69: the last half interval belongs to the first point of the next second. -/
theorem epochSecond_wrappedIndex_of_eq {frac rs tb : Nat} (soc : Nat) (h : gridIndex frac rs tb = rs) :
    epochSecond soc frac rs tb = nextSec soc ∧ wrappedIndex frac rs tb = 0 :=
  ⟨if_pos h, if_pos h⟩

theorem nextSec_of_lt {sec : Nat} (h : sec < 4294967295) : nextSec sec = sec + 1 := if_neg h.ne

theorem nextSec_last : nextSec 4294967295 = 0 := rfl

theorem streamRates_pos : ∀ rs ∈ streamRates, 0 < rs := by decide

/-- R71: δns is at most half the grid interval, rounded: the residual is at most half of TB. -/
theorem natAbs_residualNs_le {frac rs tb : Nat} (htb : 0 < tb) (hrs : 0 < rs) :
    ((residualNs frac rs tb).natAbs : Int) ≤ roundHalfAway 1000000000 (2 * rs) := by
  have halfInterval : 2 * (residualUnits frac rs tb).natAbs ≤ tb := by
    have := residualUnits_bracket frac rs htb
    omega
  refine natAbs_roundHalfAway_le (a := 1000000000) (Nat.mul_pos htb hrs) (by omega) ?_
  calc (residualUnits frac rs tb * (1000000000 : Nat)).natAbs * (2 * rs)
      = 2 * (residualUnits frac rs tb).natAbs * (1000000000 * rs) := by
        rw [Int.natAbs_mul, Int.natAbs_natCast]; ring
    _ ≤ tb * (1000000000 * rs) := Nat.mul_le_mul_right _ halfInterval
    _ = 1000000000 * (tb * rs) := by ring

/-! ### The latency -/

/-- R84: L is the latency in ns, brought to whole µs and clamped to the range of L. -/
theorem latencyUs_eq_clamp (soc frac tb : Nat) (arrival : LocalTime) :
    (latencyUs soc frac tb arrival : Int) = max 0 (min (latencyNs soc frac tb arrival / 1000) 16777215) := by
  unfold latencyUs Config.latencyMax
  omega

/-! ### The statements -/

/-- Settles O27: the grid index and the rounded quotient are floors of a quotient with half a divisor added, so each
lies within half a divisor; δns is bounded because rounding keeps the order of quotients. -/
theorem gridIndexAndResidual : Obligations.GridIndexAndResidual := by
  unfold Obligations.GridIndexAndResidual
  refine ⟨fun soc frac rs tb _ hfrac => ?grid, fun num den hden => ?rounding, fun frac rs tb hrs hfrac => ?delta⟩
  case grid =>
    have htb : 0 < tb := Nat.zero_lt_of_lt hfrac
    refine ⟨?_, residualUnits_bracket frac rs htb⟩
    rintro _ rfl
    have ⟨below, above⟩ := gridIndex_bracket frac rs htb
    refine ⟨below, above, gridIndex_le rs hfrac, by simp only [residualUnits, Nat.cast_mul],
      epochSecond_wrappedIndex_of_lt soc, fun wraps => ?_⟩
    have ⟨second, point⟩ := epochSecond_wrappedIndex_of_eq soc wraps
    refine ⟨point, fun h => second.trans (nextSec_of_lt h), ?_⟩
    rintro rfl
    exact second.trans nextSec_last
  case rounding => exact ⟨roundHalfAway_nearest num hden, roundHalfAway_farther num hden⟩
  case delta =>
    exact ⟨rfl, natAbs_residualNs_le (Nat.zero_lt_of_lt hfrac) (streamRates_pos rs hrs)⟩

/-- Settles O29: L is clamped, and each clause is one side of the clamp. -/
theorem latencyOfAFrame : Obligations.LatencyOfAFrame := by
  unfold Obligations.LatencyOfAFrame
  intro soc frac tb arrival ns hns
  have clamp := latencyUs_eq_clamp soc frac tb arrival
  have same : latencyNs soc frac tb arrival = ns := hns.symm
  rw [same] at clamp
  refine ⟨fun early => ?_, fun _ inRange => ?_, fun beyond => ?_, ?_⟩ <;> omega

end Sys2Proof.Machine

/-! The proof of the statement on the wait cap and the bounds of a wait. -/

namespace Sys2Proof.Machine

/-! ### The wait by its mode -/

/-- R140, FIXED: the configured wait, held at the cap. -/
theorem State.waitNow_fixed {s : State} (h : s.settings.mode = .fixed) :
    s.waitNow = min s.settings.wFixed (waitCap s.settings.rout) := by
  simp only [State.waitNow, h]

/-- R140, ADAPTIVE: the raw wait, brought between Wmin and Wmax and held at the cap. -/
theorem State.waitNow_adaptive {s : State} (h : s.settings.mode = .adaptive) :
    s.waitNow =
      min (max s.settings.wMin (min (rawWait s.settings s.lcrit) s.settings.wMax)) (waitCap s.settings.rout) := by
  simp only [State.waitNow, h]

/-! ### The bounds of the cap and of a wait -/

/-- R137: in either mode the cap is the last bound applied. -/
theorem State.waitNow_le_waitCap (s : State) : s.waitNow ≤ waitCap s.settings.rout := by
  cases hmode : s.settings.mode with
  | fixed => rw [State.waitNow_fixed hmode]; exact min_le_right _ _
  | adaptive => rw [State.waitNow_adaptive hmode]; exact min_le_right _ _

theorem outputRates_bounds : ∀ rout ∈ outputRates, 0 < rout ∧ rout ≤ 120 := by decide

/-- The cap falls as the rate rises. -/
theorem waitCap_antitone {rout rout' : Nat} (hpos : 0 < rout) (h : rout ≤ rout') : waitCap rout' ≤ waitCap rout :=
  Nat.div_le_div_left h hpos

/-- R137: no output rate has a smaller cap than the greatest, 120. -/
theorem le_waitCap_of_mem_outputRates {rout : Nat} (h : rout ∈ outputRates) : 516666 ≤ waitCap rout := by
  obtain ⟨hpos, hle⟩ := outputRates_bounds rout h
  calc 516666 = waitCap 120 := rfl
    _ ≤ waitCap rout := waitCap_antitone hpos hle

/-- R137: Wfixed, Wmin and the cap are at least 1,000, and so is the wait that the mode takes from them. -/
theorem State.le_waitNow {s : State} (h : s.settings.valid) : 1000 ≤ s.waitNow := by
  obtain ⟨hrout, -, hfixed, -, hmin, -⟩ := h
  have hcap : 1000 ≤ waitCap s.settings.rout := le_trans (by decide) (le_waitCap_of_mem_outputRates hrout)
  cases hmode : s.settings.mode with
  | fixed => rw [State.waitNow_fixed hmode]; exact le_min hfixed hcap
  | adaptive => rw [State.waitNow_adaptive hmode]; exact le_min (le_max_of_le_left hmin) hcap

/-! ### The statement -/

/-- Settles O17: the cap is applied last, so it bounds every wait from above; under valid settings the cap falls with the
rate to its value at 120, and every bound a wait is taken from is at least 1,000. (The name
`waitCap` is the model's own function.) -/
theorem waitCap_bounds_every_wait : Obligations.WaitCap := by
  unfold Obligations.WaitCap
  exact ⟨fun _ => rfl, rfl, State.waitNow_le_waitCap,
    fun _ valid => ⟨le_waitCap_of_mem_outputRates valid.1, State.le_waitNow valid⟩⟩

end Sys2Proof.Machine

/-! The proofs of the statements on the engine's timebase, mask and cause commands (CONFIGURE TIMEBASE, SET TIME, READ
TIME, SET ENGINE CAUSE MASK, TAKE ENGINE CAUSES). -/

namespace Sys2Proof.Machine

/-! ### The form check of a command that its row starts -/

/-- R164, R166: of another length, the message of a command of one length is answered MALFORMED and changes nothing
else. -/
theorem State.startCommand_badLength {s : State} {m : Message} {rest : List Message} {kind len : Nat}
    (h : s.offers m rest) (hk : m.kind.toNat = kind) (hl : m.len ≠ len) (body : Message → State → State) :
    State.startCommand (Message.isKind kind) (withLength len body) s = s.replied m rest .malformed .none :=
  (State.startCommand_isKind h hk _).trans (withLength_ne hl body _)

/-! ### SET ENGINE CAUSE MASK and TAKE ENGINE CAUSES -/

theorem setMaskBody_tooGreat {m : Message} (h : 64 ≤ fieldAt m.body 0 1) (s : State) :
    setMaskBody m s = s.answer m .range .none := if_neg (by omega)

theorem setMaskBody_mask {m : Message} {mask : CauseSet} (h : fieldAt m.body 0 1 = mask.toNat) (s : State) :
    setMaskBody m s = { s with mask }.answer m .done .none := by
  have fits : fieldAt m.body 0 1 ≤ 63 := h ▸ Nat.le_of_lt_succ mask.isLt
  have spelled : BitVec.ofNat 6 (fieldAt m.body 0 1) = mask := by rw [h, BitVec.ofNat_toNat, BitVec.setWidth_eq]
  rw [setMaskBody, if_pos fits, spelled]

/-- R188, R190. -/
theorem State.attnE_iff {s : State} : s.attnE = true ↔ s.resetAsserted = false ∧ s.causes &&& s.mask ≠ 0 := by
  simp only [State.attnE, Bool.and_eq_true, Bool.not_eq_true', bne_iff_ne]

theorem State.attnE_of_no_causes {s : State} (h : s.causes = 0) : s.attnE = false := by
  have none_shown : s.causes &&& s.mask = 0 := by rw [h]; exact BitVec.zero_and
  exact Bool.eq_false_iff.2 fun shown => (State.attnE_iff.1 shown).2 none_shown

/-! ### CONFIGURE TIMEBASE and SET TIME -/

/-- R168, R171: a list that is malformed or empty. -/
theorem configureTimebaseCommand_noItems {m : Message} (h : m.items 0 24 26 = none ∨ m.items 0 24 26 = some [])
    (s : State) : configureTimebaseCommand m s = s.answer m .malformed .none := by
  rcases h with h | h <;> simp only [configureTimebaseCommand, h]

theorem configureTimebaseCommand_items {m : Message} {items : List Item} (h : m.items 0 24 26 = some items)
    (hne : items ≠ []) (s : State) : configureTimebaseCommand m s = configureTimebaseBody items m s := by
  cases items with
  | nil => exact absurd rfl hne
  | cons item items => simp only [configureTimebaseCommand, h]

theorem configureTimebaseBody_outOfRange {items : List Item} (h : ∃ item ∈ items, itemInRange item = false)
    (m : Message) (s : State) : configureTimebaseBody items m s = s.answer m .range .none := by
  have bad : ¬ items.all itemInRange = true := by simpa using h
  exact if_neg bad

theorem configureTimebaseBody_inRange {items : List Item} (h : ∀ item ∈ items, itemInRange item = true)
    (m : Message) (s : State) : configureTimebaseBody items m s =
      { s with tb := { s.tb with staged := s.tb.staged.withItems items } }.answer m .done .none :=
  if_pos (List.all_eq_true.2 h)

/-- R34: a setting that the list names replaces the staged one. -/
theorem TbStaged.withItems_eq (items : List Item) (g : TbStaged) : g.withItems items =
    { tolerance := if (itemValue 24 items).isSome then itemValue 24 items else g.tolerance
      stepLimit := if (itemValue 25 items).isSome then itemValue 25 items else g.stepLimit
      holdoverLimit := if (itemValue 26 items).isSome then itemValue 26 items else g.holdoverLimit } := by
  simp only [TbStaged.withItems, Option.or_eq_bif, cond_eq_ite]

theorem setTimeBody_running {s : State} (h : s.run ≠ .stopped) (m : Message) :
    setTimeBody m s = s.answer m .state .none := if_pos h

/-- R42: in FREE the value is local time's at once. -/
theorem setTimeBody_free {s : State} (hrun : s.run = .stopped) (htb : s.tb.state = .free) (m : Message) :
    setTimeBody m s = { s with
      time := { sec := fieldAt m.body 0 4, ns := 0 }, tb := { s.tb with armed := none } }.answer m .done .none :=
  (if_neg (not_not.2 hrun)).trans (if_pos htb)

/-- R42: elsewhere the value is armed for a later edge. -/
theorem setTimeBody_armed {s : State} (hrun : s.run = .stopped) (htb : s.tb.state ≠ .free) (m : Message) :
    setTimeBody m s = { s with tb := { s.tb with armed := some (fieldAt m.body 0 4) } }.answer m .deferred .none :=
  (if_neg (not_not.2 hrun)).trans (if_neg htb)

/-! ### What the rows do with the message they start -/

theorem exec_configureTimebase_offers {s : State} {m : Message} {rest : List Message} (h : s.offers m rest)
    (hk : m.kind.toNat = 3) :
    exec .configureTimebase s = .next (configureTimebaseCommand m { s with queue := rest }) :=
  congrArg Host.Outcome.next (State.startCommand_isKind h hk _)

theorem exec_setTime_badLength {s : State} {m : Message} {rest : List Message} (h : s.offers m rest)
    (hk : m.kind.toNat = 4) (hl : m.len ≠ 4) : exec .setTime s = .next (s.replied m rest .malformed .none) :=
  congrArg Host.Outcome.next (State.startCommand_badLength h hk hl _)

theorem exec_setTime_offers {s : State} {m : Message} {rest : List Message} (h : s.offers m rest)
    (hk : m.kind.toNat = 4) (hl : m.len = 4) : exec .setTime s = .next (setTimeBody m { s with queue := rest }) :=
  congrArg Host.Outcome.next (State.startCommand_withLength h hk hl _)

/-- R44: READ TIME shows local time, the state of the timebase and the armed value. -/
theorem exec_readTime_offers {s : State} {m : Message} {rest : List Message} (h : s.offers m rest)
    (hk : m.kind.toNat = 5) (hl : m.len = 0) :
    exec .readTime s = .next (s.replied m rest .done (.time s.time s.tb.state s.tb.armed)) :=
  congrArg Host.Outcome.next (State.startCommand_withLength h hk hl _)

theorem exec_setEngineCauseMask_badLength {s : State} {m : Message} {rest : List Message} (h : s.offers m rest)
    (hk : m.kind.toNat = 9) (hl : m.len ≠ 1) :
    exec .setEngineCauseMask s = .next (s.replied m rest .malformed .none) :=
  congrArg Host.Outcome.next (State.startCommand_badLength h hk hl _)

theorem exec_setEngineCauseMask_offers {s : State} {m : Message} {rest : List Message} (h : s.offers m rest)
    (hk : m.kind.toNat = 9) (hl : m.len = 1) :
    exec .setEngineCauseMask s = .next (setMaskBody m { s with queue := rest }) :=
  congrArg Host.Outcome.next (State.startCommand_withLength h hk hl _)

/-- R189: the answer holds the causes that were pending, masked or not, and none stays. -/
theorem exec_takeEngineCauses_offers {s : State} {m : Message} {rest : List Message} (h : s.offers m rest)
    (hk : m.kind.toNat = 10) (hl : m.len = 0) :
    exec .takeEngineCauses s = .next (State.replied m rest .done (.causes s.causes) { s with causes := 0 }) :=
  congrArg Host.Outcome.next (State.startCommand_withLength h hk hl _)

/-! ### The statements -/

/-- Settles O45: the mask byte by whether six bits hold it; with no cause pending, ATTN_E has none to show. -/
theorem engineMaskAndCauses : Obligations.EngineMaskAndCauses := by
  unfold Obligations.EngineMaskAndCauses
  refine ⟨⟨fun s => ⟨_, rfl, rfl⟩, fun s m rest h hk => ⟨exec_setEngineCauseMask_badLength h hk, ?range, ?done⟩⟩,
    fun s => State.attnE_iff,
    fun s m rest h hk hl => ⟨exec_takeEngineCauses_offers h hk hl, State.attnE_of_no_causes rfl⟩⟩
  case range =>
    intro hl great
    rw [exec_setEngineCauseMask_offers h hk hl, setMaskBody_tooGreat great, State.answer_started]
  case done =>
    intro mask hl spelled
    rw [exec_setEngineCauseMask_offers h hk hl, setMaskBody_mask spelled]
    rfl

/-- Settles O42: CONFIGURE TIMEBASE by its list of items, SET TIME by its length, the run state and the state of the
timebase; READ TIME shows the time as it stands. -/
theorem timebaseCommands : Obligations.TimebaseCommands := by
  unfold Obligations.TimebaseCommands
  refine ⟨fun s m rest h hk => ?configure, fun s m rest h hk => ?set, fun s m rest => exec_readTime_offers⟩
  case configure =>
    rw [exec_configureTimebase_offers h hk]
    refine ⟨fun none_named => ?_, fun items hitems hne => ⟨fun bad => ?_, fun good => ?_⟩⟩
    · rw [configureTimebaseCommand_noItems none_named, State.answer_started]
    · rw [configureTimebaseCommand_items hitems hne, configureTimebaseBody_outOfRange bad, State.answer_started]
    · rw [configureTimebaseCommand_items hitems hne, configureTimebaseBody_inRange good, TbStaged.withItems_eq]
      rfl
  case set =>
    refine ⟨exec_setTime_badLength h hk, fun hl hrun => ?_, fun hl hrun htb => ?_, fun hl hrun htb => ?_⟩ <;>
      rw [exec_setTime_offers h hk hl]
    · rw [setTimeBody_running (s := { s with queue := rest }) hrun, State.answer_started]
    · rw [setTimeBody_free (s := { s with queue := rest }) hrun htb]
      rfl
    · rw [setTimeBody_armed (s := { s with queue := rest }) hrun htb]
      rfl

end Sys2Proof.Machine

/-! The proof of the statement on TAKE STREAM CAUSES: its rotating search, ATTN_S, and the only moves of the scan
pointer. -/

namespace Sys2Proof.Machine

/-! ### The search -/

/-- R185: the order of the search is the registry's, turned so that it begins behind the scan pointer. -/
theorem State.scanOrder_eq_rotate {s : State} (hp : s.scanPtr < s.records.length) :
    s.scanOrder = s.records.zipIdx.rotate (s.scanPtr + 1) := by
  have within : s.scanPtr + 1 ≤ s.records.zipIdx.length := by rw [List.length_zipIdx]; omega
  exact (List.rotate_eq_drop_append_take within).symm

theorem State.mem_scanOrder {s : State} {ri : Record × Nat} (h : ri ∈ s.scanOrder) :
    s.records[ri.2]? = some ri.1 := by
  have paired : ri ∈ s.records.zipIdx :=
    (List.mem_append.1 h).elim List.mem_of_mem_drop List.mem_of_mem_take
  exact List.mem_zipIdx_iff_getElem?.1 paired

theorem State.length_scanOrder {s : State} (hp : s.scanPtr < s.records.length) :
    s.scanOrder.length = s.records.length := by
  rw [State.scanOrder_eq_rotate hp, List.length_rotate, List.length_zipIdx]

/-- R185: the record at a place of the search. -/
theorem State.scanOrder_getElem {s : State} (hp : s.scanPtr < s.records.length) {d : Nat}
    (hd : d < s.scanOrder.length) :
    s.scanOrder[d] = (s.record ((s.scanPtr + 1 + d) % s.records.length), (s.scanPtr + 1 + d) % s.records.length) := by
  have inside : (s.scanPtr + 1 + d) % s.records.length < s.records.length := Nat.mod_lt _ (by omega)
  simp only [State.scanOrder_eq_rotate hp, List.getElem_rotate, List.getElem_zipIdx, List.length_zipIdx, Nat.zero_add,
    Nat.add_comm d]
  rw [State.record, List.getD_eq_getElem _ _ inside]

theorem State.attentionFound_none {s : State} (h : ∀ r ∈ s.records, r.attention = 0) : s.attentionFound = none := by
  refine List.find?_eq_none.2 fun ri hri => ?_
  have quiet : ri.1.attention = 0 := h ri.1 (List.mem_of_getElem? (State.mem_scanOrder hri))
  simp [quiet]

/-- R185: the search finds the record that is `d` places behind the scan pointer's successor when it has an enabled
pending cause and none before it has. -/
theorem State.attentionFound_first {s : State} {d : Nat} (hp : s.scanPtr < s.records.length)
    (hd : d < s.records.length) (hfound : (s.record ((s.scanPtr + 1 + d) % s.records.length)).attention ≠ 0)
    (hfirst : ∀ d' < d, (s.record ((s.scanPtr + 1 + d') % s.records.length)).attention = 0) :
    s.attentionFound =
      some (s.record ((s.scanPtr + 1 + d) % s.records.length), (s.scanPtr + 1 + d) % s.records.length) := by
  have hd' : d < s.scanOrder.length := by rwa [State.length_scanOrder hp]
  refine List.find?_eq_some_iff_getElem.2 ⟨bne_iff_ne.2 hfound, d, hd', State.scanOrder_getElem hp hd', ?_⟩
  intro j hj
  rw [State.scanOrder_getElem hp]
  simp [hfirst j hj]

/-- R185: a record that the search finds is one of the registry's. -/
theorem State.attentionFound_lt {s : State} {r : Record} {i : Nat} (h : s.attentionFound = some (r, i)) :
    i < s.records.length :=
  (List.getElem?_eq_some_iff.1 (State.mem_scanOrder (List.mem_of_find?_eq_some h))).1

/-- R183, R190. -/
theorem State.attnS_iff {s : State} :
    s.attnS = true ↔ s.resetAsserted = false ∧ ∃ r ∈ s.records, r.attention ≠ 0 := by
  simp only [State.attnS, Bool.and_eq_true, Bool.not_eq_true', List.any_eq_true, bne_iff_ne]

/-! ### TAKE STREAM CAUSES -/

theorem takeCausesBody_none {s : State} (h : s.attentionFound = none) (m : Message) :
    takeCausesBody m s = s.answer m .done .noneFound := by
  simp only [takeCausesBody, h]

theorem takeCausesBody_found {s : State} {r : Record} {i : Nat} (h : s.attentionFound = some (r, i)) (m : Message) :
    takeCausesBody m s =
      ({ s with scanPtr := i }.setRecord i { r with causes := r.causes &&& ~~~r.opts.causeEnable }).answer m .done
        (.taken i r.streamId r.attention) := by
  simp only [takeCausesBody, h]

theorem exec_takeStreamCauses_offers {s : State} {m : Message} {rest : List Message} (h : s.offers m rest)
    (hk : m.kind.toNat = 25) (hl : m.len = 0) :
    exec .takeStreamCauses s = .next (takeCausesBody m { s with queue := rest }) :=
  congrArg Host.Outcome.next (State.startCommand_withLength h hk hl _)

/-! ### The commands that keep the scan pointer -/

/-- What every command but TAKE STREAM CAUSES does with the scan pointer and the port: the pointer stays, and the
command is in progress. -/
def KeepsPointer (body : Message → State → State) : Prop :=
  ∀ m s, (body m s).scanPtr = s.scanPtr ∧ (body m s).port ≠ .idle

theorem withLength_keepsPointer {len : Nat} {body : Message → State → State} (h : KeepsPointer body) :
    KeepsPointer (withLength len body) := by
  intro m s
  by_cases hl : m.len = len
  · rw [withLength_eq hl]
    exact h m s
  · rw [withLength_ne hl]
    exact ⟨rfl, nofun⟩

theorem withStream_keepsPointer {offset : Nat} {body : Nat → Message → State → State}
    (h : ∀ i, KeepsPointer (body i)) : KeepsPointer (withStream offset body) := by
  intro m s
  cases hi : s.lookup (fieldAt m.body offset 4) with
  | none =>
    rw [withStream_unknown (State.lookup_eq_none.1 hi)]
    exact ⟨rfl, nofun⟩
  | some i =>
    rw [withStream_known hi]
    exact h i m s

theorem malformedCommand_keepsPointer : KeepsPointer malformedCommand := fun _ _ => ⟨rfl, nofun⟩

theorem readEngineCommand_keepsPointer : KeepsPointer readEngineCommand := by
  refine withLength_keepsPointer fun m s => ?_
  dsimp only [readEngineBody]
  split_ifs <;> exact ⟨rfl, nofun⟩

theorem configureAlignmentBody_keepsPointer (items : List Item) : KeepsPointer (configureAlignmentBody items) := by
  intro m s
  dsimp only [configureAlignmentBody]
  split_ifs
  · exact ⟨rfl, nofun⟩
  · exact ⟨rfl, nofun⟩
  · exact ⟨rfl, nofun⟩
  · split <;> exact ⟨rfl, nofun⟩

theorem configureAlignmentCommand_keepsPointer : KeepsPointer configureAlignmentCommand := by
  intro m s
  unfold configureAlignmentCommand
  split
  · exact ⟨rfl, nofun⟩
  · exact ⟨rfl, nofun⟩
  · exact configureAlignmentBody_keepsPointer _ m s

theorem configureTimebaseBody_keepsPointer (items : List Item) : KeepsPointer (configureTimebaseBody items) := by
  intro m s
  unfold configureTimebaseBody
  split_ifs <;> exact ⟨rfl, nofun⟩

theorem configureTimebaseCommand_keepsPointer : KeepsPointer configureTimebaseCommand := by
  intro m s
  unfold configureTimebaseCommand
  split
  · exact ⟨rfl, nofun⟩
  · exact ⟨rfl, nofun⟩
  · exact configureTimebaseBody_keepsPointer _ m s

theorem setTimeCommand_keepsPointer : KeepsPointer setTimeCommand := by
  refine withLength_keepsPointer fun m s => ?_
  unfold setTimeBody
  split_ifs <;> exact ⟨rfl, nofun⟩

theorem readTimeCommand_keepsPointer : KeepsPointer readTimeCommand :=
  withLength_keepsPointer fun _ _ => ⟨rfl, nofun⟩

theorem startRunCommand_keepsPointer : KeepsPointer startRunCommand := by
  refine withLength_keepsPointer fun m s => ?_
  unfold startBody
  split_ifs <;> exact ⟨rfl, nofun⟩

@[simp] theorem State.drain_scanPtr (s : State) : s.drain.scanPtr = s.scanPtr := by
  unfold State.drain
  split_ifs <;> simp

@[simp] theorem State.flush_scanPtr (s : State) : s.flush.scanPtr = s.scanPtr := by
  unfold State.flush
  split_ifs <;> simp

theorem stopCommand_keepsPointer : KeepsPointer stopCommand := by
  refine withLength_keepsPointer fun m s => ?_
  dsimp only [stopBody]
  split_ifs
  · exact ⟨s.drain_scanPtr, nofun⟩
  · exact ⟨s.flush_scanPtr, nofun⟩
  · exact ⟨rfl, nofun⟩

@[simp] theorem State.applyDisposition_scanPtr (d : Disposition) (s : State) :
    (s.applyDisposition d).scanPtr = s.scanPtr := by
  cases d <;> simp [State.applyDisposition, State.countFrame]

@[simp] theorem State.endHandling_scanPtr (s : State) : s.endHandling.scanPtr = s.scanPtr := by
  unfold State.endHandling
  split <;> simp

@[simp] theorem State.resetEngine_scanPtr (s : State) : s.resetEngine.scanPtr = s.scanPtr := s.endHandling_scanPtr

theorem resetEngineCommand_keepsPointer : KeepsPointer resetEngineCommand :=
  withLength_keepsPointer fun _ s => ⟨s.resetEngine_scanPtr, nofun⟩

theorem setEngineCauseMaskCommand_keepsPointer : KeepsPointer setEngineCauseMaskCommand := by
  refine withLength_keepsPointer fun m s => ?_
  dsimp only [setMaskBody]
  split_ifs <;> exact ⟨rfl, nofun⟩

theorem takeEngineCausesCommand_keepsPointer : KeepsPointer takeEngineCausesCommand :=
  withLength_keepsPointer fun _ _ => ⟨rfl, nofun⟩

theorem registerBody_keepsPointer (items : List Item) : KeepsPointer (registerBody items) := by
  intro m s
  dsimp only [registerBody]
  split_ifs
  · exact ⟨rfl, nofun⟩
  · exact ⟨rfl, nofun⟩
  · exact ⟨rfl, nofun⟩
  · split <;> exact ⟨rfl, nofun⟩

theorem registerStreamCommand_keepsPointer : KeepsPointer registerStreamCommand := by
  intro m s
  unfold registerStreamCommand
  split
  · exact ⟨rfl, nofun⟩
  · exact registerBody_keepsPointer _ m s

theorem amendStreamCommand_keepsPointer : KeepsPointer amendStreamCommand := by
  intro m s
  unfold amendStreamCommand
  split
  · exact ⟨rfl, nofun⟩
  · refine withStream_keepsPointer (fun i m s => ?_) m s
    unfold amendBody
    split_ifs <;> exact ⟨rfl, nofun⟩

theorem suspendStreamCommand_keepsPointer : KeepsPointer suspendStreamCommand :=
  withLength_keepsPointer (withStream_keepsPointer fun i _ s => ⟨State.moveRecord_scanPtr i _ s, nofun⟩)

theorem resumeStreamCommand_keepsPointer : KeepsPointer resumeStreamCommand := by
  refine withLength_keepsPointer (withStream_keepsPointer fun i m s => ?_)
  split_ifs <;> exact ⟨rfl, nofun⟩

theorem resetStreamCommand_keepsPointer : KeepsPointer resetStreamCommand :=
  withLength_keepsPointer (withStream_keepsPointer fun i _ s => ⟨State.moveRecord_scanPtr i _ s, nofun⟩)

theorem retireStreamCommand_keepsPointer : KeepsPointer retireStreamCommand :=
  withLength_keepsPointer (withStream_keepsPointer fun _ _ _ => ⟨rfl, nofun⟩)

theorem lookupStreamCommand_keepsPointer : KeepsPointer lookupStreamCommand :=
  withLength_keepsPointer (withStream_keepsPointer fun _ _ _ => ⟨rfl, nofun⟩)

theorem listStreamsCommand_keepsPointer : KeepsPointer listStreamsCommand :=
  withLength_keepsPointer fun _ _ => ⟨rfl, nofun⟩

theorem readRecord_keepsPointer (clear : Bool) (i : Nat) : KeepsPointer (readRecord clear i) := by
  intro m s
  cases clear <;> exact ⟨rfl, nofun⟩

theorem readStreamCommand_keepsPointer : KeepsPointer readStreamCommand := by
  refine withLength_keepsPointer fun m s => ?_
  dsimp only [readStreamBody]
  split_ifs
  · exact ⟨rfl, nofun⟩
  · exact readRecord_keepsPointer _ _ m s
  · exact ⟨rfl, nofun⟩
  · exact withStream_keepsPointer (readRecord_keepsPointer _) m s

/-! ### The commands that the port starts -/

/-- R184: the scan pointer is the index of a record that TAKE STREAM CAUSES has found in `s`, and its answer, being sent
in `t`, names that record. -/
def State.scanned (s t : State) : Prop :=
  t.scanPtr < s.records.length ∧
    ∃ a id cs, t.port = .answering a ∧ a.kind.toNat = 25 ∧ a.ret = .taken t.scanPtr id cs

/-- R184: what an event that can start a command does to the scan pointer. -/
def State.movesByScan (s t : State) : Prop := t.scanPtr = s.scanPtr ∨ s.scanned t

/-- Of the state after the event, its scan pointer and its port alone are looked at. -/
theorem State.movesByScan.of_eq {s t u : State} (h : s.movesByScan t) (hport : u.port = t.port)
    (hptr : u.scanPtr = t.scanPtr) : s.movesByScan u := by
  unfold State.movesByScan State.scanned
  rw [hport, hptr]
  exact h

/-- R164, R184: what the start of a command does with the scan pointer and the port. -/
def StartsCommand (command : State → State) : Prop := ∀ s, s.movesByScan (command s) ∧ (command s).port ≠ .idle

/-- R166, R180: the outcomes of TAKE STREAM CAUSES. -/
theorem takeStreamCausesCommand_cases (m : Message) (s : State) :
    takeStreamCausesCommand m s = s.answer m .malformed .none ∨
    takeStreamCausesCommand m s = s.answer m .done .noneFound ∨
    ∃ r i, s.attentionFound = some (r, i) ∧ takeStreamCausesCommand m s =
      ({ s with scanPtr := i }.setRecord i { r with causes := r.causes &&& ~~~r.opts.causeEnable }).answer m .done
        (.taken i r.streamId r.attention) := by
  by_cases hl : m.len = 0
  · rw [takeStreamCausesCommand, withLength_eq hl]
    cases found : s.attentionFound with
    | none => exact .inr (.inl (takeCausesBody_none found m))
    | some ri => exact .inr (.inr ⟨ri.1, ri.2, rfl, takeCausesBody_found found m⟩)
  · exact .inl (withLength_ne hl _ _)

/-- R184: TAKE STREAM CAUSES is answered, and the pointer moves only to a record it finds. -/
theorem takeStreamCausesCommand_startsCommand {m : Message} (hk : m.kind.toNat = 25) :
    StartsCommand (takeStreamCausesCommand m) := by
  intro s
  rcases takeStreamCausesCommand_cases m s with h | h | ⟨r, i, found, h⟩ <;> rw [h]
  · exact ⟨.inl rfl, nofun⟩
  · exact ⟨.inl rfl, nofun⟩
  · exact ⟨.inr ⟨State.attentionFound_lt found, _, _, _, rfl, hk, rfl⟩, nofun⟩

/-- R164, R184: whatever its kind, a command is in progress once it has started. -/
theorem Message.carryOut_startsCommand (m : Message) : StartsCommand m.carryOut := by
  have keeps {body : Message → State → State} (h : KeepsPointer body) : StartsCommand (body m) :=
    fun s => (h m s).imp_left .inl
  unfold Message.carryOut
  split
  · exact keeps readEngineCommand_keepsPointer
  · exact keeps configureAlignmentCommand_keepsPointer
  · exact keeps configureTimebaseCommand_keepsPointer
  · exact keeps setTimeCommand_keepsPointer
  · exact keeps readTimeCommand_keepsPointer
  · exact keeps startRunCommand_keepsPointer
  · exact keeps stopCommand_keepsPointer
  · exact keeps resetEngineCommand_keepsPointer
  · exact keeps setEngineCauseMaskCommand_keepsPointer
  · exact keeps takeEngineCausesCommand_keepsPointer
  · exact keeps registerStreamCommand_keepsPointer
  · exact keeps amendStreamCommand_keepsPointer
  · exact keeps suspendStreamCommand_keepsPointer
  · exact keeps resumeStreamCommand_keepsPointer
  · exact keeps resetStreamCommand_keepsPointer
  · exact keeps retireStreamCommand_keepsPointer
  · exact keeps lookupStreamCommand_keepsPointer
  · exact keeps listStreamsCommand_keepsPointer
  · exact keeps readStreamCommand_keepsPointer
  · exact takeStreamCausesCommand_startsCommand ‹_›
  · exact keeps malformedCommand_keepsPointer

/-- R164: a row starts nothing, or carries out the oldest message, gone from the queue. -/
theorem State.startCommand_cases (starts : Message → Bool) (body : Message → State → State) (s : State) :
    s.startCommand starts body = s ∨
    ∃ m rest, s.offers m rest ∧ starts m = true ∧ s.startCommand starts body = body m { s with queue := rest } := by
  by_cases idle : s.port ≠ .idle ∨ s.queue = []
  · exact .inl (State.startCommand_none idle _ _)
  · simp only [not_or, ne_eq, not_not] at idle
    obtain ⟨m, rest, hq⟩ := List.exists_cons_of_ne_nil idle.2
    rw [State.startCommand_offers ⟨idle.1, hq⟩]
    by_cases hm : starts m = true
    · exact .inr ⟨m, rest, ⟨idle.1, hq⟩, hm, if_pos hm⟩
    · exact .inl (if_neg hm)

/-- A row of a command that keeps the pointer keeps it. -/
theorem State.startCommand_scanPtr {body : Message → State → State} (h : KeepsPointer body) {starts : Message → Bool}
    {s t : State} (ht : (Host.Outcome.next (s.startCommand starts body) : Host.Outcome State Fault Refusal) = .next t) :
    t.scanPtr = s.scanPtr := by
  cases ht
  rcases State.startCommand_cases starts body s with none_starts | ⟨m, rest, -, -, started⟩
  · rw [none_starts]
  · rw [started]
    exact (h m _).1

theorem State.startOldest_movesByScan (s : State) : s.movesByScan s.startOldest := by
  rcases State.startCommand_cases (fun _ => true) Message.carryOut s with none_starts | ⟨m, rest, -, -, started⟩
  · exact .inl (congrArg State.scanPtr none_starts)
  · rw [State.startOldest, started]
    exact (m.carryOut_startsCommand { s with queue := rest }).1

/-! ### A byte of the management link -/

/-- R162 to R164: a byte changes the reception and the queue alone, or a command starts at an idle port. -/
theorem State.receiveByte_cases (b : Byte) (s : State) :
    (∃ reception queue, s.receiveByte b = { s with reception, queue }) ∨
    s.port = .idle ∧ ∃ (m : Message) (rest : List Message),
      s.receiveByte b = m.carryOut { s with reception := [], queue := rest } := by
  by_cases accepted : s.mgmtReady = true
  · cases hm : Message.ofWire (s.reception ++ [b]) with
    | none => exact .inl ⟨_, s.queue, State.receiveByte_joins accepted hm⟩
    | some m =>
      rw [State.receiveByte_ends accepted hm]
      rcases State.startCommand_cases (fun _ => true) Message.carryOut
        { s with reception := [], queue := s.queue ++ [m] } with none_starts | ⟨oldest, rest, ⟨idle, -⟩, -, started⟩
      · exact .inl ⟨_, _, none_starts⟩
      · exact .inr ⟨idle, oldest, rest, started⟩
  · exact .inl ⟨s.reception, s.queue, State.receiveByte_held (Bool.eq_false_iff.2 accepted) b⟩

/-- R164: while a command is in progress, bytes start no other. -/
theorem State.foldl_receiveByte_busy (bytes : List Byte) {s : State} (busy : s.port ≠ .idle) :
    (bytes.foldl (fun acc b => acc.receiveByte b) s).port = s.port ∧
    (bytes.foldl (fun acc b => acc.receiveByte b) s).scanPtr = s.scanPtr := by
  induction bytes generalizing s with
  | nil => exact ⟨rfl, rfl⟩
  | cons b bytes ih =>
    rcases State.receiveByte_cases b s with ⟨reception, queue, h⟩ | ⟨idle, -⟩
    · rw [List.foldl_cons, h]
      exact ih (s := { s with reception, queue }) busy
    · exact absurd idle busy

/-- R184: of all the messages that the bytes end, at most the first that starts at the idle port can move the
pointer. -/
theorem State.foldl_receiveByte_movesByScan (bytes : List Byte) (s : State) :
    s.movesByScan (bytes.foldl (fun acc b => acc.receiveByte b) s) := by
  induction bytes generalizing s with
  | nil => exact .inl rfl
  | cons b bytes ih =>
    rcases State.receiveByte_cases b s with ⟨reception, queue, h⟩ | ⟨-, m, rest, h⟩ <;> rw [List.foldl_cons, h]
    · exact ih { s with reception, queue }
    · obtain ⟨moves, busy⟩ := m.carryOut_startsCommand { s with reception := [], queue := rest }
      obtain ⟨hport, hptr⟩ := State.foldl_receiveByte_busy bytes busy
      exact State.movesByScan.of_eq moves hport hptr

/-! ### The part's own events -/

@[simp] theorem State.makeRoom_scanPtr (s : State) : s.makeRoom.scanPtr = s.scanPtr := by
  unfold State.makeRoom
  split
  · rfl
  · split
    · rfl
    · split <;> simp

@[simp] theorem State.beforeOpening_scanPtr (k : Nat) (s : State) : (s.beforeOpening k).scanPtr = s.scanPtr := by
  rw [State.beforeOpening_frame]

@[simp] theorem State.tick_scanPtr (e : Epoch) (s : State) : (s.tick e).scanPtr = s.scanPtr := by
  dsimp only [State.tick]
  split_ifs <;> simp

@[simp] theorem State.tickReached_scanPtr (s : State) : s.tickReached.scanPtr = s.scanPtr := by
  unfold State.tickReached
  split
  · rfl
  · dsimp only
    split_ifs <;> simp

@[simp] theorem State.stepTime_scanPtr (t : LocalTime) (s : State) : (s.stepTime t).scanPtr = s.scanPtr := by
  unfold State.stepTime
  split_ifs <;> simp

theorem execPpsEdge_scanPtr {s t : State} (h : execPpsEdge s = .next t) : t.scanPtr = s.scanPtr := by
  dsimp only [execPpsEdge] at h
  split_ifs at h <;> cases h <;> simp

theorem execAcquireTimeout_scanPtr {s t : State} (h : execAcquireTimeout s = .next t) : t.scanPtr = s.scanPtr := by
  unfold execAcquireTimeout at h
  split_ifs at h <;> cases h <;> simp

theorem execMissingEdgeLimit_scanPtr {s t : State} (h : execMissingEdgeLimit s = .next t) : t.scanPtr = s.scanPtr := by
  unfold execMissingEdgeLimit at h
  split_ifs at h <;> cases h <;> simp

theorem execHoldoverLimit_scanPtr {s t : State} (h : execHoldoverLimit s = .next t) : t.scanPtr = s.scanPtr := by
  unfold execHoldoverLimit at h
  split_ifs at h <;> cases h <;> simp

theorem execEpochTick_scanPtr {s t : State} (h : execEpochTick s = .next t) : t.scanPtr = s.scanPtr := by
  unfold execEpochTick at h
  split at h
  · cases h; rfl
  · split_ifs at h <;> cases h <;> simp

theorem execDeadlineExpiry_scanPtr {e : Epoch} {s t : State} (h : execDeadlineExpiry e s = .next t) :
    t.scanPtr = s.scanPtr := by
  unfold execDeadlineExpiry at h
  split_ifs at h <;> cases h <;> simp

theorem execFrameOffered_scanPtr {bytes : List Byte} {s t : State} (h : execFrameOffered bytes s = .next t) :
    t.scanPtr = s.scanPtr := by
  unfold execFrameOffered at h
  split_ifs at h <;> cases h <;> simp

theorem execFrameHandling_scanPtr {s t : State} (h : execFrameHandling s = .next t) : t.scanPtr = s.scanPtr := by
  cases h
  simp

theorem execInsertionEditCompletion_scanPtr {s t : State} (h : execInsertionEditCompletion s = .next t) :
    t.scanPtr = s.scanPtr := by
  unfold execInsertionEditCompletion at h
  split at h
  · split_ifs at h <;> cases h <;> simp
  all_goals cases h; rfl

theorem execRemovalEditCompletion_scanPtr {s t : State} (h : execRemovalEditCompletion s = .next t) :
    t.scanPtr = s.scanPtr := by
  unfold execRemovalEditCompletion at h
  split at h
  · dsimp only at h
    split_ifs at h <;> cases h <;> simp
  all_goals cases h; rfl

theorem execEmissionCompletion_scanPtr {s t : State} (h : execEmissionCompletion s = .next t) :
    t.scanPtr = s.scanPtr := by
  unfold execEmissionCompletion at h
  split at h <;> cases h <;> simp

theorem execTransmissionCompletion_scanPtr {s t : State} (h : execTransmissionCompletion s = .next t) :
    t.scanPtr = s.scanPtr := by
  unfold execTransmissionCompletion at h
  split_ifs at h <;> cases h <;> simp

/-! ### The rows at which a command can start -/

theorem execManagementBytes_movesByScan {bytes : List Byte} {s t : State} (h : execManagementBytes bytes s = .next t) :
    s.movesByScan t := by
  cases h
  exact State.foldl_receiveByte_movesByScan bytes s

theorem execAnswerSent_movesByScan {s t : State} (h : execAnswerSent s = .next t) : s.movesByScan t := by
  unfold execAnswerSent at h
  split at h
  · cases h
    exact State.startOldest_movesByScan { s with port := .idle }
  all_goals cases h; exact .inl rfl

theorem execTakeStreamCauses_movesByScan {s t : State} (h : execTakeStreamCauses s = .next t) : s.movesByScan t := by
  cases h
  rcases State.startCommand_cases (Message.isKind 25) takeStreamCausesCommand s with
    none_starts | ⟨m, rest, -, kind, started⟩
  · exact .inl (congrArg State.scanPtr none_starts)
  · rw [started]
    exact (takeStreamCausesCommand_startsCommand (beq_iff_eq.1 kind) { s with queue := rest }).1

/-- R184: an event other than power-on moves the scan pointer only where TAKE STREAM CAUSES can start. -/
theorem exec_movesByScan {c : Instr} {s t : State} (h : exec c s = .next t) (hc : c ≠ .powerOn) :
    t.scanPtr = s.scanPtr ∨ (c = .takeStreamCauses ∨ testsForStart c) ∧ s.scanned t := by
  cases c
  case powerOn => exact absurd rfl hc
  case takeStreamCauses => exact (execTakeStreamCauses_movesByScan h).imp_right fun found => ⟨.inl rfl, found⟩
  case managementBytes bytes =>
    exact (execManagementBytes_movesByScan h).imp_right fun found => ⟨.inr (.inr ⟨bytes, rfl⟩), found⟩
  case answerSent => exact (execAnswerSent_movesByScan h).imp_right fun found => ⟨.inr (.inl rfl), found⟩
  all_goals left
  case resetInputRelease => cases h; rfl
  case ppsEdge => exact execPpsEdge_scanPtr h
  case acquireTimeout => exact execAcquireTimeout_scanPtr h
  case missingEdgeLimit => exact execMissingEdgeLimit_scanPtr h
  case holdoverLimit => exact execHoldoverLimit_scanPtr h
  case epochTick => exact execEpochTick_scanPtr h
  case deadlineExpiry => exact execDeadlineExpiry_scanPtr h
  case frameOffered => exact execFrameOffered_scanPtr h
  case frameHandling => exact execFrameHandling_scanPtr h
  case insertionEditCompletion => exact execInsertionEditCompletion_scanPtr h
  case removalEditCompletion => exact execRemovalEditCompletion_scanPtr h
  case emissionBegin => cases h; exact s.beginEmission_scanPtr
  case emissionCompletion => exact execEmissionCompletion_scanPtr h
  case transmissionBegin => cases h; exact s.beginTransmission_scanPtr
  case transmissionCompletion => exact execTransmissionCompletion_scanPtr h
  case readyAssert => cases h; exact State.beginTransmission_scanPtr _
  case readyWithdraw => cases h; rfl
  case malformed => exact State.startCommand_scanPtr malformedCommand_keepsPointer h
  case readEngine => exact State.startCommand_scanPtr readEngineCommand_keepsPointer h
  case configureAlignment => exact State.startCommand_scanPtr configureAlignmentCommand_keepsPointer h
  case configureTimebase => exact State.startCommand_scanPtr configureTimebaseCommand_keepsPointer h
  case setTime => exact State.startCommand_scanPtr setTimeCommand_keepsPointer h
  case readTime => exact State.startCommand_scanPtr readTimeCommand_keepsPointer h
  case start => exact State.startCommand_scanPtr startRunCommand_keepsPointer h
  case stopDrain => exact State.startCommand_scanPtr stopCommand_keepsPointer h
  case stopFlush => exact State.startCommand_scanPtr stopCommand_keepsPointer h
  case resetEngine => exact State.startCommand_scanPtr resetEngineCommand_keepsPointer h
  case setEngineCauseMask => exact State.startCommand_scanPtr setEngineCauseMaskCommand_keepsPointer h
  case takeEngineCauses => exact State.startCommand_scanPtr takeEngineCausesCommand_keepsPointer h
  case registerStream => exact State.startCommand_scanPtr registerStreamCommand_keepsPointer h
  case amendStream => exact State.startCommand_scanPtr amendStreamCommand_keepsPointer h
  case suspendStream => exact State.startCommand_scanPtr suspendStreamCommand_keepsPointer h
  case resumeStream => exact State.startCommand_scanPtr resumeStreamCommand_keepsPointer h
  case resetStream => exact State.startCommand_scanPtr resetStreamCommand_keepsPointer h
  case retireStream => exact State.startCommand_scanPtr retireStreamCommand_keepsPointer h
  case lookupStream => exact State.startCommand_scanPtr lookupStreamCommand_keepsPointer h
  case listStreams => exact State.startCommand_scanPtr listStreamsCommand_keepsPointer h
  case readStream => exact State.startCommand_scanPtr readStreamCommand_keepsPointer h

/-- R1, R184: the scan pointer stays within the registry. -/
theorem exec_scanPtr_lt {c : Instr} {s t : State} (hlen : s.records.length = 1024) (hp : s.scanPtr < 1024)
    (h : exec c s = .next t) : t.scanPtr < 1024 := by
  by_cases hc : c = .powerOn
  · subst hc
    cases h
    show 1023 < 1024
    omega
  · rcases exec_movesByScan h hc with kept | ⟨-, inside, -⟩ <;> omega

/-- R180, R184: what TAKE STREAM CAUSES answers tells whether and where it moved the pointer. -/
theorem execTakeStreamCauses_answer {s t : State} {a : Answer} (idle : s.port = .idle)
    (h : execTakeStreamCauses s = .next t) (ha : t.port = .answering a) :
    (∀ i id c, a.ret = .taken i id c → t.scanPtr = i) ∧ (a.ret = .noneFound → t.scanPtr = s.scanPtr) := by
  cases h
  rcases State.startCommand_cases (Message.isKind 25) takeStreamCausesCommand s with
    none_starts | ⟨m, rest, -, -, started⟩
  · rw [none_starts, idle] at ha
    contradiction
  · rw [started] at ha ⊢
    rcases takeStreamCausesCommand_cases m { s with queue := rest } with h | h | ⟨r, i, -, h⟩ <;>
      rw [h] at ha ⊢ <;> cases ha
    · exact ⟨nofun, nofun⟩
    · exact ⟨nofun, fun _ => rfl⟩
    · exact ⟨fun _ _ _ taken => (ReturnFields.taken.inj taken).1, nofun⟩

/-! ### The statement -/

/-- Settles O51: the search is the registry turned to begin behind the pointer, so the first record with an enabled
pending cause is the one found; the pointer's moves come from what each row does with it. -/
theorem takeStreamCausesScans : Obligations.TakeStreamCausesScans := by
  unfold Obligations.TakeStreamCausesScans
  refine ⟨⟨fun s => State.attnS_iff, fun s m rest h hk hl hlen hp => ?search⟩, fun s => ⟨_, rfl, rfl⟩, ?moves,
    fun s t a => execTakeStreamCauses_answer, fun c s t => exec_scanPtr_lt⟩
  case search =>
    rw [exec_takeStreamCauses_offers h hk hl]
    refine ⟨fun quiet => ?_, fun d i r hd hi hr shown first => ?_⟩
    · rw [takeCausesBody_none (s := { s with queue := rest }) (State.attentionFound_none quiet), State.answer_started]
    · have found : s.attentionFound = some (r, i) := by
        subst hi hr
        rw [← hlen] at hp hd shown first ⊢
        exact State.attentionFound_first hp hd shown first
      rw [takeCausesBody_found (s := { s with queue := rest }) found]
      rfl
  case moves =>
    intro c s t h hc moved
    rcases exec_movesByScan h hc with kept | ⟨row, -, answered⟩
    · exact absurd kept moved
    · exact ⟨row, answered⟩

end Sys2Proof.Machine

/-! What an event can do to the part, said once: the effects of a started command, and the outcomes of every row. The
invariants and the statements on owners, answers and completion are read off these two lists of cases. -/

namespace Sys2Proof.Machine

/-! ### The effects of a started command -/

/-- R169, R44, R14, R15, R179, R180: the return fields of the commands that only read. -/
inductive State.Shows (s : State) : ReturnFields → Prop
  | engine : Shows s (.engine s.report)
  | time : Shows s (.time s.time s.tb.state s.tb.armed)
  | lookup (i : Nat) : Shows s (.lookup i (s.record i).state)
  | pairs (ps : List (Nat × Nat)) (more : Bool) (few : ps.length ≤ 16) : Shows s (.pairs ps more)
  | stream (i : Nat) : Shows s (.stream i (s.record i))
  | noneFound : Shows s .noneFound

/-- R164 to R166: what the command of message `m` can make of `s`, the state without its message. -/
inductive Message.Effect (m : Message) (s : State) : State → Prop
  /-- R166: a refusal. -/
  | refused (status : Status) (ret : ReturnFields) (notDone : status ≠ .done) (notDeferred : status ≠ .deferred)
      (bare : ret = .none ∨ status = .rate ∧ m.kind.toNat = 2 ∧ ∃ i, ret = .index i) :
      Effect m s (s.answer m status ret)
  | shown (ret : ReturnFields) (figures : s.Shows ret) : Effect m s (s.answer m .done ret)
  /-- R169. -/
  | engineCleared : Effect m s ({ s with counters := EngineCounters.zero }.answer m .done (.engine s.report))
  /-- R138. -/
  | configured (items : List Item) (kind : m.kind.toNat = 2) (stopped : s.run = .stopped)
      (inRange : items.all itemInRange = true) (ordered : (s.settings.withItems items).wMin ≤ (s.settings.withItems items).wMax)
      (fits : s.offender (s.settings.withItems items).rout = none) :
      Effect m s ({ s with settings := s.settings.withItems items }.answer m .done .none)
  /-- R171. -/
  | staged (items : List Item) (inRange : items.all itemInRange = true) :
      Effect m s ({ s with tb := { s.tb with staged := s.tb.staged.withItems items } }.answer m .done .none)
  /-- R42. -/
  | timeSet (kind : m.kind.toNat = 4) (stopped : s.run = .stopped) (free : s.tb.state = .free) :
      Effect m s ({ s with time := { sec := fieldAt m.body 0 4, ns := 0 }
                           tb := { s.tb with armed := none } }.answer m .done .none)
  | armed (stopped : s.run = .stopped) :
      Effect m s ({ s with tb := { s.tb with armed := some (fieldAt m.body 0 4) } }.answer m .deferred .none)
  /-- R131. -/
  | started (kind : m.kind.toNat = 6) (stopped : s.run = .stopped) :
      Effect m s ({ s with run := .running, nextEpoch := firstEpochAfter s.settings.rout s.time
                           newest := none }.answer m .done .none)
  | drained (kind : m.kind.toNat = 7) : Effect m s (s.drain.answer m .done .none)
  | flushed (kind : m.kind.toNat = 7) : Effect m s (s.flush.answer m .done .none)
  | engineReset (kind : m.kind.toNat = 8) : Effect m s (s.resetEngine.answer m .done .none)
  | masked (kind : m.kind.toNat = 9) (mask : CauseSet) : Effect m s ({ s with mask }.answer m .done .none)
  | causesTaken : Effect m s ({ s with causes := 0 }.answer m .done (.causes s.causes))
  /-- R22. -/
  | amended (items : List Item) (id i : Nat) (known : s.lookup id = some i) (inRange : items.all itemInRange = true)
      (status : Status) (accepted : status = .done ∨ status = .deferred) :
      Effect m s ((s.setRecord i ((s.record i).amendBy items (s.run == .stopped))).answer m status .none)
  | suspended (id i : Nat) (known : s.lookup id = some i) :
      Effect m s ((s.moveRecord i (s.record i).suspend).answer m .done .none)
  | resumed (id i : Nat) (known : s.lookup id = some i) (suspended : (s.record i).state = .suspended) :
      Effect m s ((s.setRecord i { s.record i with state := .pending }).answer m .done .none)
  | restarted (id i : Nat) (known : s.lookup id = some i) :
      Effect m s ((s.moveRecord i (s.record i).restart).answer m .done .none)
  /-- R179 with the clear option. -/
  | countersRead (i : Nat) :
      Effect m s ((s.setRecord i { s.record i with counters := RecordCounters.zero }).answer m .done
        (.stream i (s.record i)))
  /-- R185. -/
  | streamCausesTaken (r : Record) (i : Nat) (found : s.attentionFound = some (r, i)) :
      Effect m s (({ s with scanPtr := i }.setRecord i { r with causes := r.causes &&& ~~~r.opts.causeEnable }).answer m
        .done (.taken i r.streamId r.attention))
  /-- R16, R18. -/
  | inserting (items : List Item) (i : Nat) (kind : m.kind.toNat = 16) (fixed : fixedPartInRange m.body = true)
      (inRange : items.all itemInRange = true) (new : s.lookup (Registration.ofBody m.body items).streamId = none)
      (fits : rateCompatible (Registration.ofBody m.body items).rs s.settings.rout = true)
      (free : s.lowestFree = some i) :
      Effect m s { s with port := .editing m.kind m.tag (.insertion i (Registration.ofBody m.body items)) }
  /-- R29. -/
  | removing (id i : Nat) (kind : m.kind.toNat = 21) (known : s.lookup id = some i) :
      Effect m s { s with port := .editing m.kind m.tag (.removal id i) }

/-- A refusal that carries no return fields. -/
theorem Message.Effect.bare {m : Message} {s : State} (status : Status) (notDone : status ≠ .done := by decide)
    (notDeferred : status ≠ .deferred := by decide) : m.Effect s (s.answer m status .none) :=
  .refused status .none notDone notDeferred (.inl rfl)

theorem withLength_effect {len : Nat} {body : Message → State → State} {m : Message} {s : State}
    (h : m.Effect s (body m s)) : m.Effect s (withLength len body m s) := by
  by_cases hl : m.len = len
  · rwa [withLength_eq hl]
  · rw [withLength_ne hl]
    exact .bare .malformed

theorem withStream_effect {offset : Nat} {body : Nat → Message → State → State} {m : Message} {s : State}
    (h : ∀ i, s.lookup (fieldAt m.body offset 4) = some i → m.Effect s (body i m s)) :
    m.Effect s (withStream offset body m s) := by
  cases hi : s.lookup (fieldAt m.body offset 4) with
  | none =>
    rw [withStream_unknown (State.lookup_eq_none.1 hi)]
    exact .bare .notFound
  | some i =>
    rw [withStream_known hi]
    exact h i hi

theorem readEngineCommand_effect (m : Message) (s : State) : m.Effect s (readEngineCommand m s) := by
  refine withLength_effect ?_
  dsimp only [readEngineBody]
  split_ifs
  · exact .shown _ .engine
  · exact .engineCleared
  · exact .bare .range

theorem configureAlignmentBody_effect (items : List Item) {m : Message} (kind : m.kind.toNat = 2) (s : State) :
    m.Effect s (configureAlignmentBody items m s) := by
  dsimp only [configureAlignmentBody]
  split_ifs with running outOfRange crossed
  · exact .bare .state
  · exact .bare .range
  · exact .bare .range
  · split
    next i _ => exact .refused .rate (.index i) (by decide) (by decide) (.inr ⟨rfl, kind, i, rfl⟩)
    next fits =>
      exact .configured items kind (not_not.1 running) (Bool.not_eq_false _ ▸ outOfRange) (Nat.not_lt.1 crossed) fits

theorem configureAlignmentCommand_effect {m : Message} (kind : m.kind.toNat = 2) (s : State) :
    m.Effect s (configureAlignmentCommand m s) := by
  unfold configureAlignmentCommand
  split
  · exact .bare .malformed
  · exact .bare .malformed
  · exact configureAlignmentBody_effect _ kind s

theorem configureTimebaseCommand_effect (m : Message) (s : State) : m.Effect s (configureTimebaseCommand m s) := by
  unfold configureTimebaseCommand
  split
  · exact .bare .malformed
  · exact .bare .malformed
  · unfold configureTimebaseBody
    split_ifs with inRange
    · exact .staged _ inRange
    · exact .bare .range

theorem setTimeCommand_effect {m : Message} (kind : m.kind.toNat = 4) (s : State) :
    m.Effect s (setTimeCommand m s) := by
  refine withLength_effect ?_
  dsimp only [setTimeBody]
  split_ifs with running free
  · exact .bare .state
  · exact .timeSet kind (not_not.1 running) free
  · exact .armed (not_not.1 running)

theorem startRunCommand_effect {m : Message} (kind : m.kind.toNat = 6) (s : State) :
    m.Effect s (startRunCommand m s) := by
  refine withLength_effect ?_
  unfold startBody
  split_ifs with stopped
  · exact .started kind stopped
  · exact .bare .state

theorem stopCommand_effect {m : Message} (kind : m.kind.toNat = 7) (s : State) : m.Effect s (stopCommand m s) := by
  refine withLength_effect ?_
  dsimp only [stopBody]
  split_ifs
  · exact .drained kind
  · exact .flushed kind
  · exact .bare .range

theorem setEngineCauseMaskCommand_effect {m : Message} (kind : m.kind.toNat = 9) (s : State) :
    m.Effect s (setEngineCauseMaskCommand m s) := by
  refine withLength_effect ?_
  dsimp only [setMaskBody]
  split_ifs
  · exact .masked kind _
  · exact .bare .range

theorem registerBody_effect (items : List Item) {m : Message} (kind : m.kind.toNat = 16) (s : State) :
    m.Effect s (registerBody items m s) := by
  dsimp only [registerBody]
  split_ifs with outOfRange known unfit
  · exact .bare .range
  · exact .bare .exist
  · exact .bare .rate
  · simp only [not_or, Bool.not_eq_false] at outOfRange
    split
    · exact .bare .full
    next i free =>
      exact .inserting items i kind outOfRange.1 outOfRange.2 (by simpa using known) (by simpa using unfit) free

theorem registerStreamCommand_effect {m : Message} (kind : m.kind.toNat = 16) (s : State) :
    m.Effect s (registerStreamCommand m s) := by
  unfold registerStreamCommand
  split
  · exact .bare .malformed
  · exact registerBody_effect _ kind s

theorem amendStreamCommand_effect (m : Message) (s : State) : m.Effect s (amendStreamCommand m s) := by
  unfold amendStreamCommand
  split
  · exact .bare .malformed
  · refine withStream_effect fun i known => ?_
    unfold amendBody
    split_ifs with outOfRange at_once
    · exact .bare .range
    · exact .amended _ _ i known (by simpa using outOfRange) .done (.inl rfl)
    · exact .amended _ _ i known (by simpa using outOfRange) .deferred (.inr rfl)

theorem resumeStreamCommand_effect (m : Message) (s : State) : m.Effect s (resumeStreamCommand m s) := by
  refine withLength_effect (withStream_effect fun i known => ?_)
  split_ifs with suspended
  · exact .resumed _ i known suspended
  · exact .bare .state

theorem listStreamsCommand_effect (m : Message) (s : State) : m.Effect s (listStreamsCommand m s) := by
  refine withLength_effect (.shown _ (.pairs _ _ ?_))
  simp

theorem readRecord_effect (clear : Bool) (i : Nat) (m : Message) (s : State) :
    m.Effect s (readRecord clear i m s) := by
  cases clear
  · exact .shown _ (.stream i)
  · exact .countersRead i

theorem readStreamCommand_effect (m : Message) (s : State) : m.Effect s (readStreamCommand m s) := by
  refine withLength_effect ?_
  dsimp only [readStreamBody]
  split_ifs
  · exact .bare .range
  · exact readRecord_effect _ _ m s
  · exact .bare .range
  · exact withStream_effect fun i _ => readRecord_effect _ i m s

theorem takeStreamCausesCommand_effect (m : Message) (s : State) : m.Effect s (takeStreamCausesCommand m s) := by
  rcases takeStreamCausesCommand_cases m s with h | h | ⟨r, i, found, h⟩ <;> rw [h]
  · exact .bare .malformed
  · exact .shown _ .noneFound
  · exact .streamCausesTaken r i found

/-- The command does to every state one of the things that a command of message `m` can do. -/
def Message.HasEffect (m : Message) (command : State → State) : Prop := ∀ s, m.Effect s (command s)

/-- R164, R193: the command of a message of any kind has one of the effects. -/
theorem Message.carryOut_effect (m : Message) : m.HasEffect m.carryOut := by
  unfold Message.carryOut
  split
  · exact readEngineCommand_effect m
  · exact configureAlignmentCommand_effect ‹_›
  · exact configureTimebaseCommand_effect m
  · exact setTimeCommand_effect ‹_›
  · exact fun s => withLength_effect (.shown _ .time)
  · exact startRunCommand_effect ‹_›
  · exact stopCommand_effect ‹_›
  · exact fun s => withLength_effect (.engineReset ‹_›)
  · exact setEngineCauseMaskCommand_effect ‹_›
  · exact fun s => withLength_effect .causesTaken
  · exact registerStreamCommand_effect ‹_›
  · exact amendStreamCommand_effect m
  · exact fun s => withLength_effect (withStream_effect fun i known => .suspended _ i known)
  · exact resumeStreamCommand_effect m
  · exact fun s => withLength_effect (withStream_effect fun i known => .restarted _ i known)
  · exact fun s => withLength_effect (withStream_effect fun i known => .removing _ i ‹_› known)
  · exact fun s => withLength_effect (withStream_effect fun i _ => .shown _ (.lookup i))
  · exact listStreamsCommand_effect m
  · exact readStreamCommand_effect m
  · exact takeStreamCausesCommand_effect m
  · exact fun s => .bare .malformed

end Sys2Proof.Machine

/-! The outcomes of every row of the table, and of a step. -/

namespace Sys2Proof.Machine

/-! ### The outcomes of a row -/

/-- R164: the row can start a command for message `m`: it is the message's own row, STOP FLUSH for a STOP (log 15), or
one of the two events that test for a start. -/
def Message.startedBy (m : Message) (c : Instr) : Prop :=
  c = m.command ∨ (c = .stopFlush ∧ m.kind.toNat = 7) ∨ testsForStart c

/-- What a row can make of `s`. -/
inductive State.Moves (s : State) : Instr → State → Prop
  /-- The row's event does not occur (log 1). -/
  | stays (c : Instr) : Moves s c s
  | powerOn : Moves s .powerOn
      { State.reset with pending := s.pending, periods := s.periods, ready := s.ready, resetAsserted := true }
  | released : Moves s .resetInputRelease { s with resetAsserted := false }
  /-- R35 to R40: an edge that does not step local time. -/
  | edge (keeps : (s.tb.applyStaged.judge s.time).2 = false) :
      Moves s .ppsEdge (s.setTimebase ((s.tb.applyStaged.judge s.time).1.capture s.time))
  /-- R43. -/
  | edgeSteps (steps : (s.tb.applyStaged.judge s.time).2 = true) :
      Moves s .ppsEdge ((s.setTimebase { (s.tb.applyStaged.judge s.time).1.capture s.time with armed := none }).stepTime
        (s.tb.stepTarget s.time))
  /-- R37, R40. -/
  | timedOut (c : Instr) (c_eq : c = .acquireTimeout ∨ c = .holdoverLimit) : Moves s c (s.setTimebase s.tb.enterFree)
  /-- R39. -/
  | edgeMissed (locked : s.tb.state = .locked) :
      Moves s .missingEdgeLimit (s.setTimebase { s.tb with state := .holdover, inHoldover := 0 })
  | ticked (e : Epoch) (next : s.nextEpoch = some e) (running : s.run = .running)
      (reached : (e.instant s.settings.rout).atOrBefore s.time) :
      Moves s .epochTick ({ s with nextEpoch := e.succ s.settings.rout }.tick e)
  | expired (e : Epoch) :
      Moves s (.deadlineExpiry e) { s with window := s.window.map (Slot.expireIf e s.time) }.beginEmission
  /-- R50 to R52. -/
  | frameJoined (bytes : List Byte) (room : s.fifo.length < 256) :
      Moves s (.frameOffered bytes) (State.takeFrame { s with
        fifo := s.fifo ++ [{ bytes := bytes.take 78, length := bytes.length, arrival := s.time }] })
  /-- R53. -/
  | frameDropped (bytes : List Byte) : Moves s (.frameOffered bytes) (s.countDropped.raise EngineCause.ingressDrop)
  | frameHandled : Moves s .frameHandling s.takeFrame.endHandling.takeFrame
  /-- R18. -/
  | inserted (kind tag : Byte) (i : Nat) (g : Registration) (edit : s.port = .editing kind tag (.insertion i g))
      (idle : s.handling = none) :
      Moves s .insertionEditCompletion
        ({ s with directory := insertPair g.streamId i s.directory
                  port := .answering { kind, tag, status := .done, ret := .index i } }.setRecord i
          (Record.registered g)).takeFrame
  /-- R29. -/
  | removed (kind tag : Byte) (id i : Nat) (status : Status) (edit : s.port = .editing kind tag (.removal id i))
      (idle : s.handling = none) :
      Moves s .removalEditCompletion
        (({ s with
            window := if (s.record i).state = RecState.active then s.window.map (Slot.dropExpected i) else s.window
            directory := removePair id s.directory
            port := .answering { kind, tag, status, ret := .none } }.setRecord i
              (s.record i).retired).beginEmission).takeFrame
  | emissionBegan : Moves s .emissionBegin s.beginEmission
  | emissionCompleted (sl : Slot) (emitting : s.emission = some sl) :
      Moves s .emissionCompletion
        ({ s with emission := none, egress := s.egress ++ [buildSet s.settings.rout sl]
                  counters := s.counters.bumpSet sl.cause }.beginEmission.beginTransmission.endDrain)
  | transmissionBegan : Moves s .transmissionBegin s.beginTransmission
  | transmissionCompleted :
      Moves s .transmissionCompletion
        ({ s with egress := s.egress.drop 1, transmitting := false }.beginEmission.beginTransmission)
  | readyAsserted : Moves s .readyAssert { s with ready := true }.beginTransmission
  | readyWithdrawn : Moves s .readyWithdraw { s with ready := false }
  /-- Bytes of the management link that start no command. -/
  | received (bytes reception : List Byte) (queue : List Message) :
      Moves s (.managementBytes bytes) { s with reception, queue }
  /-- The end of an answer behind which no message waits. -/
  | answered (a : Answer) (sending : s.port = .answering a) : Moves s .answerSent { s with port := .idle }
  /-- R164: the start of one command, with the bytes of the link around it. -/
  | starts (c : Instr) (m : Message) (u : State) (before after : List Byte) (rest queue : List Message)
      (free : s.editInFlight = false)
      (effect : m.Effect { s with port := .idle, reception := before, queue := rest } u) (row : m.startedBy c) :
      Moves s c { u with reception := after, queue := queue }

/-! ### Each row has one of the outcomes -/

theorem State.editInFlight_of_idle {s : State} (idle : s.port = .idle) : s.editInFlight = false := by
  rw [State.editInFlight, idle]

/-- R164: a command that starts at an idle port. -/
theorem State.Moves.of_start {s : State} {c : Instr} {m : Message} {rest : List Message} (row : m.startedBy c)
    (idle : s.port = .idle) : s.Moves c (m.carryOut { s with queue := rest }) := by
  have effect := m.carryOut_effect { s with port := .idle, queue := rest }
  have same : { s with port := .idle, queue := rest } = { s with queue := rest } := by rw [← idle]
  rw [← same]
  exact .starts _ m _ s.reception _ rest _ (State.editInFlight_of_idle idle) effect row

/-- The row of a kind of message, whose command it carries out. -/
theorem State.Moves.of_startCommand {s : State} {c : Instr} {starts : Message → Bool} {body : Message → State → State}
    (row : ∀ m, starts m = true → m.startedBy c ∧ m.carryOut = body m) : s.Moves c (s.startCommand starts body) := by
  rcases State.startCommand_cases starts body s with none_starts | ⟨m, rest, ⟨idle, -⟩, kind, started⟩
  · rw [none_starts]
    exact .stays c
  · obtain ⟨own, same⟩ := row m kind
    rw [started, ← same]
    exact .of_start own idle

theorem Message.command_of_unknown {m : Message} (h : m.knownKind = false) :
    m.command = .malformed ∧ m.carryOut = malformedCommand m := by
  simp only [Message.knownKind, Bool.or_eq_false_iff, Bool.and_eq_false_iff, decide_eq_false_iff_not] at h
  unfold Message.command Message.carryOut
  constructor <;> split
  any_goals omega
  all_goals rfl

theorem Message.command_of_stop {m : Message} (hk : m.kind.toNat = 7) :
    (m.command = if m.len = 1 ∧ fieldAt m.body 0 1 = 1 then .stopFlush else .stopDrain) ∧
      m.carryOut = stopCommand m := by
  constructor
  · simp only [Message.command, hk]
  · simp only [Message.carryOut, hk]

/-- R164: the row `c` starts the message `m`: it is the message's own row, or STOP FLUSH for a STOP (log 15). -/
def Message.rowOf (m : Message) (c : Instr) : Prop := c = m.command ∨ (c = .stopFlush ∧ m.kind.toNat = 7)

/-- R164: each of the commands' rows starts the messages that its test names, and carries them out. -/
structure RowStarts (c : Instr) (starts : Message → Bool) (body : Message → State → State) : Prop where
  row : ∀ s, exec c s = .next (s.startCommand starts body)
  names : ∀ m, starts m = true → m.rowOf c ∧ m.carryOut = body m

theorem RowStarts.of_kind {c : Instr} {kind : Nat} {body : Message → State → State}
    (row : ∀ s, exec c s = .next (s.startCommand (Message.isKind kind) body))
    (command : ∀ m : Message, m.kind.toNat = kind → m.command = c ∧ m.carryOut = body m) :
    RowStarts c (Message.isKind kind) body :=
  ⟨row, fun m hm => ⟨.inl (command m (beq_iff_eq.1 hm)).1.symm, (command m (beq_iff_eq.1 hm)).2⟩⟩

theorem RowStarts.malformed : RowStarts .malformed (fun m => !m.knownKind) malformedCommand := by
  refine ⟨fun _ => rfl, fun m hm => ?_⟩
  obtain ⟨own, same⟩ := Message.command_of_unknown (by simpa using hm)
  exact ⟨.inl own.symm, same⟩

theorem RowStarts.stopDrain :
    RowStarts .stopDrain (fun m => m.isKind 7 && !(m.len == 1 && fieldAt m.body 0 1 == 1)) stopCommand := by
  refine ⟨fun _ => rfl, fun m hm => ?_⟩
  simp only [Bool.and_eq_true, Bool.not_eq_true', Bool.and_eq_false_iff, beq_eq_false_iff_ne] at hm
  obtain ⟨own, same⟩ := Message.command_of_stop (beq_iff_eq.1 hm.1)
  refine ⟨.inl ?_, same⟩
  rw [own, if_neg fun h => hm.2.elim (· h.1) (· h.2)]

theorem RowStarts.stopFlush :
    RowStarts .stopFlush (fun m => m.isKind 7 && !(m.len == 1 && fieldAt m.body 0 1 == 0)) stopCommand := by
  refine ⟨fun _ => rfl, fun m hm => ?_⟩
  simp only [Bool.and_eq_true] at hm
  have kind : m.kind.toNat = 7 := beq_iff_eq.1 hm.1
  exact ⟨.inr ⟨rfl, kind⟩, (Message.command_of_stop kind).2⟩

theorem exists_starts_of_managementCommand {c : Instr} (hc : c ∈ managementCommands) :
    ∃ starts body, RowStarts c starts body := by
  simp only [managementCommands, List.mem_cons, List.not_mem_nil, or_false] at hc
  rcases hc with rfl | rfl | rfl | rfl | rfl | rfl | rfl | rfl | rfl | rfl | rfl | rfl | rfl | rfl | rfl | rfl | rfl |
    rfl | rfl | rfl | rfl | rfl
  case inl => exact ⟨_, _, .malformed⟩
  case inr.inr.inr.inr.inr.inr.inr.inl => exact ⟨_, _, .stopDrain⟩
  case inr.inr.inr.inr.inr.inr.inr.inr.inl => exact ⟨_, _, .stopFlush⟩
  all_goals
    exact ⟨_, _, .of_kind (fun _ => rfl) fun m kind =>
      ⟨by simp only [Message.command, kind], by simp only [Message.carryOut, kind]⟩⟩

/-- R164: bytes that arrive while a command is in progress change the reception and the queue alone. -/
theorem State.foldl_receiveByte_joinsLink (bytes : List Byte) {s : State} (busy : s.port ≠ .idle) :
    ∃ reception queue, bytes.foldl (fun acc b => acc.receiveByte b) s = { s with reception, queue } := by
  induction bytes generalizing s with
  | nil => exact ⟨s.reception, s.queue, rfl⟩
  | cons b bytes ih =>
    rcases State.receiveByte_cases b s with ⟨reception, queue, h⟩ | ⟨idle, -⟩
    · rw [List.foldl_cons, h]
      exact ih (s := { s with reception, queue }) busy
    · exact absurd idle busy

/-- R162 to R164: bytes start no command, or one, at an idle port. -/
theorem State.foldl_receiveByte_cases (bytes : List Byte) (s : State) :
    (∃ reception queue, bytes.foldl (fun acc b => acc.receiveByte b) s = { s with reception, queue }) ∨
    s.port = .idle ∧ ∃ (m : Message) (rest : List Message) (reception : List Byte) (queue : List Message),
      bytes.foldl (fun acc b => acc.receiveByte b) s =
        { m.carryOut { s with reception := [], queue := rest } with reception, queue } := by
  induction bytes generalizing s with
  | nil => exact .inl ⟨s.reception, s.queue, rfl⟩
  | cons b bytes ih =>
    rcases State.receiveByte_cases b s with ⟨reception, queue, h⟩ | ⟨idle, m, rest, h⟩ <;> rw [List.foldl_cons, h]
    · exact ih { s with reception, queue }
    · obtain ⟨reception, queue, joined⟩ :=
        State.foldl_receiveByte_joinsLink bytes (m.carryOut_startsCommand { s with reception := [], queue := rest }).2
      exact .inr ⟨idle, m, rest, reception, queue, joined⟩

theorem execManagementBytes_moves (bytes : List Byte) (s : State) :
    s.Moves (.managementBytes bytes) (bytes.foldl (fun acc b => acc.receiveByte b) s) := by
  rcases State.foldl_receiveByte_cases bytes s with
    ⟨reception, queue, h⟩ | ⟨idle, m, rest, reception, queue, h⟩ <;> rw [h]
  · exact .received bytes reception queue
  · have effect := m.carryOut_effect { s with port := .idle, reception := [], queue := rest }
    have same : { s with port := .idle, reception := [], queue := rest } = { s with reception := [], queue := rest } := by
      rw [← idle]
    rw [← same]
    exact .starts _ m _ [] reception rest queue (State.editInFlight_of_idle idle) effect (.inr (.inr (.inr ⟨bytes, rfl⟩)))

theorem execAnswerSent_moves {s t : State} (h : execAnswerSent s = .next t) : s.Moves .answerSent t := by
  unfold execAnswerSent at h
  split at h <;> injection h with h <;> subst h
  next a sending =>
    by_cases waits : s.queue = []
    · rw [State.startOldest_none (s := { s with port := .idle }) (.inr waits)]
      exact .answered a sending
    · obtain ⟨m, rest, hq⟩ := List.exists_cons_of_ne_nil waits
      rw [State.startOldest_offers (s := { s with port := .idle }) ⟨rfl, hq⟩]
      have free : s.editInFlight = false := by rw [State.editInFlight, sending]
      exact .starts _ m _ s.reception _ rest _ free (m.carryOut_effect _) (.inr (.inr (.inl rfl)))
  all_goals exact .stays _

theorem execPpsEdge_moves {s t : State} (h : execPpsEdge s = .next t) : s.Moves .ppsEdge t := by
  dsimp only [execPpsEdge] at h
  split_ifs at h with held steps <;> cases h
  · exact .stays _
  · exact .edgeSteps steps
  · exact .edge (Bool.eq_false_iff.2 steps)

theorem execAcquireTimeout_moves {s t : State} (h : execAcquireTimeout s = .next t) : s.Moves .acquireTimeout t := by
  unfold execAcquireTimeout at h
  split_ifs at h <;> cases h
  · exact .timedOut _ (.inl rfl)
  · exact .stays _

theorem execHoldoverLimit_moves {s t : State} (h : execHoldoverLimit s = .next t) : s.Moves .holdoverLimit t := by
  unfold execHoldoverLimit at h
  split_ifs at h <;> cases h
  · exact .timedOut _ (.inr rfl)
  · exact .stays _

theorem execMissingEdgeLimit_moves {s t : State} (h : execMissingEdgeLimit s = .next t) :
    s.Moves .missingEdgeLimit t := by
  unfold execMissingEdgeLimit at h
  split_ifs at h with missing <;> cases h
  · simp only [Timebase.edgeMissing, Bool.and_eq_true, beq_iff_eq] at missing
    exact .edgeMissed missing.1
  · exact .stays _

theorem execEpochTick_moves {s t : State} (h : execEpochTick s = .next t) : s.Moves .epochTick t := by
  unfold execEpochTick at h
  split at h
  · cases h
    exact .stays _
  next e next =>
    split_ifs at h with due <;> cases h
    · exact .ticked e next due.1 due.2
    · exact .stays _

theorem execDeadlineExpiry_moves {e : Epoch} {s t : State} (h : execDeadlineExpiry e s = .next t) :
    s.Moves (.deadlineExpiry e) t := by
  unfold execDeadlineExpiry at h
  split_ifs at h <;> cases h
  · exact .expired e
  · exact .stays _

theorem execFrameOffered_moves {bytes : List Byte} {s t : State} (h : execFrameOffered bytes s = .next t) :
    s.Moves (.frameOffered bytes) t := by
  unfold execFrameOffered at h
  split_ifs at h with held room <;> cases h
  · exact .stays _
  · exact .frameJoined bytes room
  · exact .frameDropped bytes

theorem execInsertionEditCompletion_moves {s t : State} (h : execInsertionEditCompletion s = .next t) :
    s.Moves .insertionEditCompletion t := by
  unfold execInsertionEditCompletion at h
  split at h
  next kind tag i g edit =>
    split_ifs at h with idle <;> cases h
    · exact .inserted kind tag i g edit idle
    · exact .stays _
  all_goals cases h; exact .stays _

/-- R29: the completion of a removal edit when no frame is being handled. -/
theorem execRemovalEditCompletion_idle {s : State} {kind tag : Byte} {id i : Nat}
    (edit : s.port = .editing kind tag (.removal id i)) (idle : s.handling = none) :
    execRemovalEditCompletion s = .next ((({ s with
      window := if (s.record i).state = RecState.active then s.window.map (Slot.dropExpected i) else s.window
      directory := removePair id s.directory
      port := .answering
        { kind, tag, status := if (s.record i).held = 0 then .done else .deferred, ret := .none } }.setRecord i
          (s.record i).retired).beginEmission).takeFrame) := by
  simp only [execRemovalEditCompletion, edit]
  rw [if_pos idle]
  by_cases active : (s.record i).state = RecState.active
  · rw [if_pos active, if_pos active]
    rfl
  · rw [if_neg active, if_neg active]

theorem execRemovalEditCompletion_moves {s t : State} (h : execRemovalEditCompletion s = .next t) :
    s.Moves .removalEditCompletion t := by
  by_cases idle : s.handling = none
  · cases hp : s.port with
    | idle => simp only [execRemovalEditCompletion, hp] at h; cases h; exact .stays _
    | answering a => simp only [execRemovalEditCompletion, hp] at h; cases h; exact .stays _
    | editing kind tag edit =>
      cases edit with
      | insertion i g => simp only [execRemovalEditCompletion, hp] at h; cases h; exact .stays _
      | removal id i =>
        rw [execRemovalEditCompletion_idle hp idle] at h
        cases h
        exact .removed kind tag id i _ hp idle
  · unfold execRemovalEditCompletion at h
    split at h
    · rw [if_neg idle] at h
      cases h
      exact .stays _
    all_goals cases h; exact .stays _

theorem execEmissionCompletion_moves {s t : State} (h : execEmissionCompletion s = .next t) :
    s.Moves .emissionCompletion t := by
  unfold execEmissionCompletion at h
  split at h <;> cases h
  · exact .stays _
  · exact .emissionCompleted _ ‹_›

theorem execTransmissionCompletion_moves {s t : State} (h : execTransmissionCompletion s = .next t) :
    s.Moves .transmissionCompletion t := by
  unfold execTransmissionCompletion at h
  split_ifs at h <;> cases h
  · exact .transmissionCompleted
  · exact .stays _

/-- R164: the row of a command carries out the oldest message, or nothing happens. -/
theorem exec_managementCommand_moves {c : Instr} (hc : c ∈ managementCommands) {s t : State}
    (h : exec c s = .next t) : s.Moves c t := by
  obtain ⟨starts, body, row, names⟩ := exists_starts_of_managementCommand hc
  rw [row] at h
  cases h
  exact .of_startCommand fun m named =>
    have ⟨own, same⟩ := names m named
    ⟨own.imp_right .inl, same⟩

/-- Every row is a row of the management port's commands, or one of the twenty others. -/
theorem exec_moves {c : Instr} {s t : State} (h : exec c s = .next t) : s.Moves c t := by
  by_cases hc : c ∈ managementCommands
  · exact exec_managementCommand_moves hc h
  · cases c
    case powerOn => cases h; exact .powerOn
    case resetInputRelease => cases h; exact .released
    case ppsEdge => exact execPpsEdge_moves h
    case acquireTimeout => exact execAcquireTimeout_moves h
    case missingEdgeLimit => exact execMissingEdgeLimit_moves h
    case holdoverLimit => exact execHoldoverLimit_moves h
    case epochTick => exact execEpochTick_moves h
    case deadlineExpiry => exact execDeadlineExpiry_moves h
    case frameOffered => exact execFrameOffered_moves h
    case frameHandling => cases h; exact .frameHandled
    case insertionEditCompletion => exact execInsertionEditCompletion_moves h
    case removalEditCompletion => exact execRemovalEditCompletion_moves h
    case emissionBegin => cases h; exact .emissionBegan
    case emissionCompletion => exact execEmissionCompletion_moves h
    case transmissionBegin => cases h; exact .transmissionBegan
    case transmissionCompletion => exact execTransmissionCompletion_moves h
    case readyAssert => cases h; exact .readyAsserted
    case readyWithdraw => cases h; exact .readyWithdrawn
    case managementBytes bytes => cases h; exact execManagementBytes_moves bytes s
    case answerSent => exact execAnswerSent_moves h
    all_goals exact absurd (by decide) hc

/-! ### The outcomes of a step -/

/-- R31, R33, R40: the step on an empty queue moves local time, the timebase's measures and the model's own fields. -/
theorem State.ownStep_cases (s : State) : s.ownStep = s ∨
    ∃ pending, s.ownStep = { s with time := s.time.advance, tb := s.tb.period, periods := s.periods + 1, pending } := by
  unfold State.ownStep
  split_ifs
  · exact .inl rfl
  · exact .inr ⟨_, rfl⟩

/-- A step is the part's own, or a row on the state with the queue's rest. -/
theorem step_cases {s t : State} (h : step s = .next t) :
    t = s.ownStep ∨ ∃ c rest, s.pending = c :: rest ∧ exec c { s with pending := rest } = .next t := by
  unfold step at h
  split at h
  next c rest hp => exact .inr ⟨c, rest, hp, h⟩
  · cases h
    exact .inl rfl

end Sys2Proof.Machine

/-! What the window's events leave alone, and what each shared operation makes of the sizes of the buffers. -/

namespace Sys2Proof.Machine

/-! ### What the events of the window leave alone -/

/-- The state but for the fields in which frames, ticks, expiries and emissions have their effects: records, window,
newest epoch, emission, engine counters and engine causes. -/
def State.outside (s : State) : State :=
  { s with records := [], window := [], newest := none, emission := none, counters := EngineCounters.zero, causes := 0 }

@[simp] theorem State.raise_outside (c : CauseSet) (s : State) : (s.raise c).outside = s.outside := rfl
@[simp] theorem State.setRecord_outside (i : Nat) (r : Record) (s : State) : (s.setRecord i r).outside = s.outside := rfl
@[simp] theorem State.leaveActive_outside (i : Nat) (s : State) : (s.leaveActive i).outside = s.outside := rfl
@[simp] theorem State.expireReached_outside (s : State) : s.expireReached.outside = s.outside := rfl
@[simp] theorem State.pushSlot_outside (e : Epoch) (s : State) : (s.pushSlot e).outside = s.outside := rfl

@[simp] theorem State.skipEpochs_outside (n : Nat) (s : State) : (s.skipEpochs n).outside = s.outside := by
  unfold State.skipEpochs
  split_ifs <;> rfl

@[simp] theorem State.beforeOpening_outside (k : Nat) (s : State) : (s.beforeOpening k).outside = s.outside := by
  rw [State.beforeOpening_frame]
  rfl

/-- R144: an emission begins with the oldest slot, or nothing happens. -/
theorem State.beginEmission_cases (s : State) : s.beginEmission = s ∨
    ∃ sl rest, s.window = sl :: rest ∧ sl.status ≠ .opened ∧ s.hasRoom ∧ s.beginEmission =
      State.mapRecords (fun i r => if sl.hasEntry i then r.releaseHeld else r)
        { s with window := rest, emission := some sl } := by
  cases hw : s.window with
  | nil => exact .inl (State.beginEmission_none (.inl hw))
  | cons sl rest =>
    by_cases due : sl.status ≠ .opened ∧ s.hasRoom
    · exact .inr ⟨sl, rest, rfl, due.1, due.2, State.beginEmission_takes hw due.1 due.2⟩
    · refine .inl (State.beginEmission_none (.inr ?_))
      by_cases opened : sl.status = .opened
      · exact .inl ⟨sl, rest, hw, opened⟩
      · exact .inr fun room => due ⟨opened, room⟩

@[simp] theorem State.beginEmission_outside (s : State) : s.beginEmission.outside = s.outside := by
  rcases s.beginEmission_cases with h | ⟨sl, rest, -, -, -, h⟩ <;> rw [h]
  rfl

/-- R112: room is there, or the oldest slot is taken if it can be, forced out first where it is OPEN. -/
theorem State.makeRoom_cases (s : State) : s.makeRoom = s ∨ s.makeRoom = s.beginEmission ∨
    ∃ sl rest, s.window = sl :: rest ∧ sl.status = .opened ∧ s.makeRoom =
      ({ s with window := sl.release .windowFull :: rest }.raise EngineCause.windowFull).beginEmission := by
  unfold State.makeRoom
  split_ifs
  · exact .inl rfl
  · split
    · exact .inl rfl
    next sl rest hw =>
      split_ifs with opened
      · exact .inr (.inr ⟨sl, rest, hw, opened, rfl⟩)
      · exact .inr (.inl rfl)

@[simp] theorem State.makeRoom_outside (s : State) : s.makeRoom.outside = s.outside := by
  rcases s.makeRoom_cases with h | h | ⟨sl, rest, -, -, h⟩ <;> rw [h]
  · exact s.beginEmission_outside
  · exact State.beginEmission_outside _

@[simp] theorem State.tick_outside (e : Epoch) (s : State) : (s.tick e).outside = s.outside := by
  dsimp only [State.tick]
  split_ifs <;> simp

@[simp] theorem State.applyDisposition_outside (d : Disposition) (s : State) :
    (s.applyDisposition d).outside = s.outside := by
  cases d
  case placed => exact State.beginEmission_outside _
  all_goals rfl

@[simp] theorem State.moveRecord_outside (i : Nat) (r : Record) (s : State) :
    (s.moveRecord i r).outside = s.outside := by
  unfold State.moveRecord
  split_ifs <;> simp

/-- R54: the frame in handling, if there is one, comes to its disposition. -/
theorem State.endHandling_cases (s : State) : (s.handling = none ∧ s.endHandling = s) ∨
    ∃ f, s.handling = some f ∧
      s.endHandling = State.applyDisposition (s.dispose f) { s with handling := none } := by
  unfold State.endHandling
  split
  next h => exact .inl ⟨h, rfl⟩
  next f h => exact .inr ⟨f, h, rfl⟩

/-- R54: the end of a handling, in the fields that no disposition touches. -/
theorem State.endHandling_outside (s : State) : s.endHandling.outside = { s.outside with handling := none } := by
  rcases s.endHandling_cases with ⟨none, h⟩ | ⟨f, -, h⟩ <;> rw [h]
  · exact congrArg (fun handling => { s.outside with handling }) none
  · exact State.applyDisposition_outside _ _

/-! ### The sizes of the registry, the window and the egress buffer -/

/-- R1, R108, R150, R152: the registry is whole, the window and the egress buffer are within their capacities, and a set
in transmission stands in the buffer. -/
structure State.Sized (s : State) : Prop where
  records : s.records.length = 1024
  window : s.window.length ≤ 64
  egress : s.egress.length + (if s.emission = none then 0 else 1) ≤ 4
  sending : s.transmitting = true → s.egress ≠ []

/-- The sizes look at a few fields alone, and at the lengths of the registry and the window. -/
theorem State.Sized.of_same {s t : State} (h : s.Sized) (records : t.records.length = s.records.length)
    (window : t.window.length = s.window.length) (emission : t.emission = s.emission)
    (outside : t.outside = s.outside) : t.Sized := by
  have egress : t.egress = s.egress := (congrArg State.egress outside :)
  have transmitting : t.transmitting = s.transmitting := (congrArg State.transmitting outside :)
  exact ⟨records ▸ h.records, window ▸ h.window, by rw [egress, emission]; exact h.egress, by
    rw [egress, transmitting]; exact h.sending⟩

theorem State.Sized.setRecord {s : State} (h : s.Sized) (i : Nat) (r : Record) : (s.setRecord i r).Sized :=
  h.of_same List.length_set rfl rfl rfl

theorem State.Sized.leaveActive {s : State} (h : s.Sized) (i : Nat) : (s.leaveActive i).Sized :=
  h.of_same rfl (List.length_map _) rfl rfl

/-- R144: the slot that leaves the window has its place in the buffer. -/
theorem State.Sized.beginEmission {s : State} (h : s.Sized) : s.beginEmission.Sized := by
  rcases s.beginEmission_cases with same | ⟨sl, rest, hw, -, ⟨-, room⟩, taken⟩
  · rwa [same]
  · rw [taken]
    have shorter : rest.length ≤ 64 := by
      have := h.window
      rw [hw, List.length_cons] at this
      omega
    exact ⟨(mapFrom_length _ _ _).trans h.records, shorter, Nat.succ_le_succ room, h.sending⟩

theorem State.Sized.makeRoom {s : State} (h : s.Sized) : s.makeRoom.Sized := by
  rcases s.makeRoom_cases with same | same | ⟨sl, rest, hw, -, same⟩ <;> rw [same]
  · exact h
  · exact h.beginEmission
  · exact State.Sized.beginEmission (h.of_same rfl (by rw [hw]; rfl) rfl rfl)

theorem State.Sized.beforeOpening {s : State} (h : s.Sized) (k : Nat) : (s.beforeOpening k).Sized := by
  refine h.of_same ?_ ?_ ?_ (s.beforeOpening_outside k)
  all_goals simp [State.beforeOpening, State.countSilence, State.foldl_leaveActive]

/-- R108: a slot opens only where the window has room. -/
theorem State.Sized.tick {s : State} (h : s.Sized) (e : Epoch) : (s.tick e).Sized := by
  dsimp only [State.tick]
  have roomy := h.makeRoom
  split_ifs with room
  · have opening := roomy.beforeOpening e.k
    have same : (s.makeRoom.beforeOpening e.k).window.length = s.makeRoom.window.length := by
      simp [State.beforeOpening, State.countSilence, State.foldl_leaveActive]
    have pushed : ((s.makeRoom.beforeOpening e.k).pushSlot e).window.length ≤ 64 := by
      rw [State.pushSlot_window, List.length_append, same]
      exact room
    exact State.Sized.beginEmission ⟨opening.records, pushed, opening.egress, opening.sending⟩
  · exact roomy.of_same (by simp) (by simp) (by simp) (State.skipEpochs_outside 1 _)

theorem State.Sized.applyDisposition {s : State} (h : s.Sized) (d : Disposition) : (s.applyDisposition d).Sized := by
  cases d
  case unknown => exact h.of_same rfl rfl rfl rfl
  case placed i al =>
    exact State.Sized.beginEmission ((h.setRecord i _).of_same rfl (List.length_map _) rfl rfl)
  all_goals exact h.setRecord _ _

theorem State.Sized.endHandling {s : State} (h : s.Sized) : s.endHandling.Sized := by
  rcases s.endHandling_cases with ⟨-, same⟩ | ⟨f, -, same⟩ <;> rw [same]
  · exact h
  · exact State.Sized.applyDisposition (s := { s with handling := none }) ⟨h.1, h.2, h.3, h.4⟩ _

theorem State.Sized.takeFrame {s : State} (h : s.Sized) : s.takeFrame.Sized :=
  ⟨by simpa using h.1, by simpa using h.2, by simpa using h.3, by simpa using h.4⟩

theorem State.Sized.moveRecord {s : State} (h : s.Sized) (i : Nat) (r : Record) : (s.moveRecord i r).Sized := by
  unfold State.moveRecord
  split_ifs
  · exact ((h.leaveActive i).setRecord i r).beginEmission
  · exact h.setRecord i r

theorem State.Sized.beginTransmission {s : State} (h : s.Sized) : s.beginTransmission.Sized := by
  unfold State.beginTransmission
  split_ifs with ready
  · exact ⟨h.records, h.window, h.egress, fun _ => ready.1⟩
  · exact h

theorem State.Sized.endDrain {s : State} (h : s.Sized) : s.endDrain.Sized :=
  ⟨by simpa using h.1, by simpa using h.2, by simpa using h.3, by simpa using h.4⟩

theorem State.Sized.stepTime {s : State} (h : s.Sized) (t : LocalTime) : (s.stepTime t).Sized := by
  unfold State.stepTime
  split_ifs
  · have expired : ({ s with time := t }.expireReached.beginEmission).Sized :=
      State.Sized.beginEmission ⟨h.records, List.length_map (as := s.window) _ ▸ h.window, h.egress, h.sending⟩
    unfold State.tickReached
    split
    · exact expired
    · dsimp only
      split_ifs
      · exact State.Sized.tick ⟨by simpa using expired.1, by simpa using expired.2, by simpa using expired.3,
          by simpa using expired.4⟩ _
      · exact expired
  · exact ⟨h.1, h.2, h.3, h.4⟩

theorem State.Sized.setTimebase {s : State} (h : s.Sized) (b : Timebase) : (s.setTimebase b).Sized :=
  ⟨by simpa using h.1, by simpa using h.2, by simpa using h.3, by simpa using h.4⟩

/-- R151: what stays of the buffer at RESET ENGINE is the set in transmission. -/
theorem State.Sized.resetEngine {s : State} (h : s.Sized) : s.resetEngine.Sized := by
  have ended := h.endHandling
  refine ⟨(mapFrom_length _ _ _).trans ended.records, Nat.zero_le _, ?_, ?_⟩
  · show (if s.endHandling.transmitting = true then s.endHandling.egress.take 1 else []).length + 0 ≤ 4
    split_ifs <;> simp
  · intro sending
    show (if s.endHandling.transmitting = true then s.endHandling.egress.take 1 else []) ≠ []
    have sending' : s.endHandling.transmitting = true := sending
    rw [if_pos sending']
    simpa using ended.sending sending'

end Sys2Proof.Machine

/-! The proof that every step keeps every buffer within its capacity. -/

namespace Sys2Proof.Machine

/-! ### What the larger events leave alone -/

@[simp] theorem State.tickReached_outside (s : State) :
    s.tickReached.outside = { s.outside with nextEpoch := s.tickReached.nextEpoch } := by
  unfold State.tickReached
  split
  · rfl
  · dsimp only
    split_ifs
    next e _ _ =>
      set u := State.tick _ _ with hu
      have same : u.outside = { s.outside with nextEpoch := (latestEpoch s.settings.rout s.time).succ s.settings.rout } := by
        rw [hu, State.tick_outside, State.skipEpochs_outside]
        rfl
      have next : u.nextEpoch = (latestEpoch s.settings.rout s.time).succ s.settings.rout :=
        (congrArg State.nextEpoch same :)
      rw [same, next]
    · rfl

/-- R32: a step of local time, in the fields that its expiries and its tick do not touch. -/
theorem State.stepTime_outside (t : LocalTime) (s : State) :
    (s.stepTime t).outside = { s.outside with time := t, nextEpoch := (s.stepTime t).nextEpoch } := by
  unfold State.stepTime
  split_ifs
  · rw [State.tickReached_outside, State.beginEmission_outside]
    rfl
  · rfl

theorem State.drain_outside (s : State) :
    s.drain.outside = { s.outside with run := s.drain.run, nextEpoch := s.drain.nextEpoch } := by
  unfold State.drain
  split_ifs
  · unfold State.endDrain
    split_ifs <;> rfl
  · rfl

theorem State.flush_outside (s : State) :
    s.flush.outside = { s.outside with run := s.flush.run, nextEpoch := s.flush.nextEpoch } := by
  unfold State.flush
  split_ifs
  · rfl
  · set u := State.beginEmission _ with hu
    have same : u.outside = { s.outside with run := .draining, nextEpoch := none } := by
      rw [hu, State.beginEmission_outside]
      rfl
    have run : u.run = .draining := (congrArg State.run same :)
    have next : u.nextEpoch = none := (congrArg State.nextEpoch same :)
    unfold State.endDrain
    split_ifs
    · show { u.outside with run := .stopped } = { s.outside with run := .stopped, nextEpoch := u.nextEpoch }
      rw [same, next]
    · rw [same, next, run]

/-- R135: RESET ENGINE, in the fields that hold no part of the run. -/
theorem State.resetEngine_outside (s : State) :
    s.resetEngine.outside =
      { s.outside with
        run := .stopped, nextEpoch := none, handling := none, fifo := []
        egress := if s.transmitting then s.egress.take 1 else [] } := by
  have ended := s.endHandling_outside
  have egress : s.endHandling.egress = s.egress := (congrArg State.egress ended :)
  have transmitting : s.endHandling.transmitting = s.transmitting := (congrArg State.transmitting ended :)
  show { s.endHandling.outside with
      run := .stopped, nextEpoch := none, fifo := []
      egress := if s.endHandling.transmitting then s.endHandling.egress.take 1 else [] } = _
  rw [ended, egress, transmitting]

/-! ### The FIFO -/

/-- R53, R54: the FIFO is within its capacity, and no frame waits while intake could take it. -/
structure State.Intake (s : State) : Prop where
  fifo : s.fifo.length ≤ 256
  taken : s.fifo ≠ [] → s.handling ≠ none ∨ s.editInFlight = true

theorem State.Intake.of_same {s t : State} (h : s.Intake) (fifo : t.fifo = s.fifo) (handling : t.handling = s.handling)
    (port : t.port = s.port) : t.Intake := by
  refine ⟨fifo ▸ h.fifo, ?_⟩
  rw [State.editInFlight, fifo, handling, port]
  exact h.taken

theorem State.Intake.of_outside {s t : State} (h : s.Intake) (outside : t.outside = s.outside) : t.Intake :=
  h.of_same (congrArg State.fifo outside :) (congrArg State.handling outside :) (congrArg State.port outside :)

theorem State.Intake.of_empty {s : State} (h : s.fifo = []) : s.Intake := ⟨by simp [h], fun waits => absurd h waits⟩

/-- R54: after intake's test no frame waits that intake could take. -/
theorem State.Intake.takeFrame {s : State} (h : s.fifo.length ≤ 256) : s.takeFrame.Intake := by
  by_cases nothing : s.fifo = [] ∨ s.handling ≠ none ∨ s.editInFlight = true
  · rw [State.takeFrame_none nothing]
    exact ⟨h, fun waits => nothing.resolve_left waits⟩
  · simp only [not_or, ne_eq, not_not, Bool.not_eq_true] at nothing
    obtain ⟨waits, idle, free⟩ := nothing
    obtain ⟨f, rest, hf⟩ := List.exists_cons_of_ne_nil waits
    rw [State.takeFrame_takes hf idle free]
    rw [hf, List.length_cons] at h
    exact ⟨by show rest.length ≤ 256; omega, fun _ => .inl nofun⟩

/-- R65: a command leaves the FIFO and the handling alone, but for RESET ENGINE, which empties the FIFO. -/
theorem Message.Effect.intake {m : Message} {s u : State} (h : m.Effect s u) :
    (u.fifo = s.fifo ∧ u.handling = s.handling) ∨ u.fifo = [] := by
  cases h
  case drained => exact .inl ⟨(congrArg State.fifo s.drain_outside :), (congrArg State.handling s.drain_outside :)⟩
  case flushed => exact .inl ⟨(congrArg State.fifo s.flush_outside :), (congrArg State.handling s.flush_outside :)⟩
  case engineReset => exact .inr rfl
  case suspended i _ => exact .inl ⟨State.moveRecord_fifo i _ s, State.moveRecord_handling i _ s⟩
  case restarted i _ => exact .inl ⟨State.moveRecord_fifo i _ s, State.moveRecord_handling i _ s⟩
  all_goals exact .inl ⟨rfl, rfl⟩

theorem State.Moves.intake {s t : State} {c : Instr} (h : s.Moves c t) (hs : s.Intake) : t.Intake := by
  cases h
  case stays => exact hs
  case powerOn => exact .of_empty rfl
  case released => exact ⟨hs.1, hs.2⟩
  case edge => exact hs.of_same (by simp) (by simp) (by simp)
  case edgeSteps =>
    refine hs.of_same ?_ ?_ ?_
    · exact (congrArg State.fifo (State.stepTime_outside _ _) :).trans (by simp [State.outside])
    · exact (congrArg State.handling (State.stepTime_outside _ _) :).trans (by simp [State.outside])
    · exact (congrArg State.port (State.stepTime_outside _ _) :).trans (by simp [State.outside])
  case timedOut => exact hs.of_same (by simp) (by simp) (by simp)
  case edgeMissed => exact hs.of_same (by simp) (by simp) (by simp)
  case ticked e _ _ _ =>
    have same := State.tick_outside e { s with nextEpoch := e.succ s.settings.rout }
    exact hs.of_same (congrArg State.fifo same :) (congrArg State.handling same :) (congrArg State.port same :)
  case expired => exact hs.of_outside (State.beginEmission_outside _)
  case frameJoined room =>
    refine .takeFrame ?_
    simpa using room
  case frameDropped => exact ⟨hs.1, hs.2⟩
  case frameHandled =>
    refine .takeFrame ?_
    have ended : s.takeFrame.endHandling.fifo = s.takeFrame.fifo :=
      (congrArg State.fifo s.takeFrame.endHandling_outside :)
    rw [ended]
    exact (State.Intake.takeFrame hs.fifo).fifo
  case inserted => exact .takeFrame hs.fifo
  case removed => exact .takeFrame (by simpa using hs.fifo)
  case emissionBegan => exact hs.of_outside s.beginEmission_outside
  case emissionCompleted => exact hs.of_same (by simp) (by simp) (by simp)
  case transmissionBegan => exact hs.of_same (by simp) (by simp) (by simp)
  case transmissionCompleted => exact hs.of_same (by simp) (by simp) (by simp)
  case readyAsserted => exact hs.of_same (by simp) (by simp) (by simp)
  case readyWithdrawn => exact ⟨hs.1, hs.2⟩
  case received => exact ⟨hs.1, hs.2⟩
  case answered a sending =>
    refine ⟨hs.fifo, fun waits => .inl ((hs.taken waits).resolve_right ?_)⟩
    simp [State.editInFlight, sending]
  case starts m u _ _ _ _ free effect _ =>
    rcases effect.intake with ⟨fifo, handling⟩ | empty
    · refine ⟨?_, fun waits => .inl ?_⟩
      · show u.fifo.length ≤ 256
        rw [fifo]
        exact hs.fifo
      · show u.handling ≠ none
        rw [handling]
        exact (hs.taken (fifo ▸ waits)).resolve_right (by simp [free])
    · exact .of_empty empty

/-! ### The queue of commands and the port -/

/-- R163, R164: the queue is within its capacity, what is in reception is unfinished and has a place in the queue, and no
message waits while no command is in progress. -/
structure State.Linked (s : State) : Prop where
  queue : s.queue.length ≤ 8
  unfinished : Message.ofWire s.reception = none
  place : s.reception ≠ [] → s.queue.length < 8
  idle : s.port = .idle → s.queue = []

/-- R164: a command takes nothing more from the link, and is in progress. -/
theorem Message.Effect.link {m : Message} {s u : State} (h : m.Effect s u) :
    u.queue = s.queue ∧ u.reception = s.reception ∧ u.port ≠ .idle := by
  cases h
  case drained =>
    exact ⟨(congrArg State.queue s.drain_outside :), (congrArg State.reception s.drain_outside :), nofun⟩
  case flushed =>
    exact ⟨(congrArg State.queue s.flush_outside :), (congrArg State.reception s.flush_outside :), nofun⟩
  case engineReset =>
    exact ⟨(congrArg State.queue s.resetEngine_outside :), (congrArg State.reception s.resetEngine_outside :), nofun⟩
  case suspended i _ => exact ⟨State.moveRecord_queue i _ s, State.moveRecord_reception i _ s, nofun⟩
  case restarted i _ => exact ⟨State.moveRecord_queue i _ s, State.moveRecord_reception i _ s, nofun⟩
  all_goals exact ⟨rfl, rfl, nofun⟩

/-- R164: with a place left in the queue, the start of the oldest message leaves none waiting at an idle port. -/
theorem State.Linked.startOldest {s : State} (queue : s.queue.length ≤ 8) (unfinished : Message.ofWire s.reception = none)
    (place : s.reception ≠ [] → s.queue.length < 8) : s.startOldest.Linked := by
  by_cases nothing : s.port ≠ .idle ∨ s.queue = []
  · rw [State.startOldest_none nothing]
    exact ⟨queue, unfinished, place, fun idle => nothing.resolve_left (not_not.2 idle)⟩
  · simp only [not_or, ne_eq, not_not] at nothing
    obtain ⟨idle, waits⟩ := nothing
    obtain ⟨m, rest, hq⟩ := List.exists_cons_of_ne_nil waits
    rw [State.startOldest_offers ⟨idle, hq⟩]
    obtain ⟨left, reception, busy⟩ := (m.carryOut_effect { s with queue := rest }).link
    rw [hq, List.length_cons] at queue place
    refine ⟨?_, by rw [reception]; exact unfinished, fun h => ?_, fun h => absurd h busy⟩
    · rw [left]
      show rest.length ≤ 8
      omega
    · rw [left]
      rw [reception] at h
      have := place h
      show rest.length < 8
      omega

theorem State.Linked.receiveByte {s : State} (h : s.Linked) (b : Byte) : (s.receiveByte b).Linked := by
  by_cases accepted : s.mgmtReady = true
  · have room : s.queue.length < 8 := (State.mgmtReady_iff.1 accepted).2.elim h.place id
    cases hm : Message.ofWire (s.reception ++ [b]) with
    | none =>
      rw [State.receiveByte_joins accepted hm]
      exact ⟨h.queue, hm, fun _ => room, h.idle⟩
    | some m =>
      rw [State.receiveByte_ends accepted hm]
      refine .startOldest ?_ rfl (fun empty => absurd rfl empty)
      simpa using room
  · rwa [State.receiveByte_held (Bool.eq_false_iff.2 accepted)]

theorem State.Linked.foldl_receiveByte {s : State} (h : s.Linked) (bytes : List Byte) :
    (bytes.foldl (fun acc b => acc.receiveByte b) s).Linked := by
  induction bytes generalizing s with
  | nil => exact h
  | cons b bytes ih => exact ih (h.receiveByte b)

theorem execAnswerSent_linked {s t : State} (h : execAnswerSent s = .next t) (hs : s.Linked) : t.Linked := by
  unfold execAnswerSent at h
  split at h <;> cases h
  · exact .startOldest hs.queue hs.unfinished hs.place
  all_goals exact hs

/-- R164: while a command is in progress, or no message waits, the row of a command starts none. -/
theorem exec_managementCommand_none {c : Instr} (hc : c ∈ managementCommands) {s : State}
    (h : s.port ≠ .idle ∨ s.queue = []) : exec c s = .next s := by
  obtain ⟨starts, body, starts_⟩ := exists_starts_of_managementCommand hc
  rw [starts_.row, State.startCommand_none h]

/-- The port's state may change from one command in progress to its answer; else the link's fields stay. -/
theorem State.Linked.of_same {s t : State} (h : s.Linked) (queue : t.queue = s.queue)
    (reception : t.reception = s.reception) (port : t.port = s.port ∨ t.port ≠ .idle) : t.Linked := by
  refine ⟨queue ▸ h.queue, reception ▸ h.unfinished, by rw [queue, reception]; exact h.place, fun idle => ?_⟩
  rw [queue]
  exact h.idle (port.elim (fun same => same ▸ idle) (absurd idle))

theorem Message.command_mem (m : Message) : m.command ∈ managementCommands := by
  unfold Message.command
  split
  case h_7 => split_ifs <;> decide
  all_goals decide

/-- R162 to R164: the rows that neither receive nor end an answer nor start a command keep the link's fields. -/
theorem State.Moves.linked {s t : State} {c : Instr} (h : s.Moves c t) (command : c ∉ managementCommands)
    (test : ¬ testsForStart c) (hs : s.Linked) : t.Linked := by
  cases h
  case stays => exact hs
  case powerOn => exact ⟨Nat.zero_le _, rfl, fun h => absurd rfl h, fun _ => rfl⟩
  case edgeSteps =>
    refine hs.of_same ?_ ?_ (.inl ?_)
    · exact (congrArg State.queue (State.stepTime_outside _ _) :).trans (by simp [State.outside])
    · exact (congrArg State.reception (State.stepTime_outside _ _) :).trans (by simp [State.outside])
    · exact (congrArg State.port (State.stepTime_outside _ _) :).trans (by simp [State.outside])
  case ticked e _ _ _ =>
    have same := State.tick_outside e { s with nextEpoch := e.succ s.settings.rout }
    exact hs.of_same (congrArg State.queue same :) (congrArg State.reception same :) (.inl (congrArg State.port same :))
  case frameHandled =>
    have same := s.takeFrame.endHandling_outside
    refine hs.of_same ?_ ?_ (.inl ?_)
    · exact (State.takeFrame_queue _).trans ((congrArg State.queue same :).trans s.takeFrame_queue)
    · exact (State.takeFrame_reception _).trans ((congrArg State.reception same :).trans s.takeFrame_reception)
    · exact (State.takeFrame_port _).trans ((congrArg State.port same :).trans s.takeFrame_port)
  case inserted => exact hs.of_same (by simp) (by simp) (.inr (by simp))
  case removed => exact hs.of_same (by simp) (by simp) (.inr (by simp))
  case received bytes _ _ => exact absurd (.inr ⟨bytes, rfl⟩) test
  case answered => exact absurd (.inl rfl) test
  case starts m _ _ _ _ _ _ _ row =>
    rcases row with rfl | ⟨rfl, -⟩ | tests
    · exact absurd m.command_mem command
    · exact absurd (by decide) command
    · exact absurd tests test
  all_goals exact hs.of_same (by simp) (by simp) (.inl (by simp))

theorem exec_linked {c : Instr} {s t : State} (h : exec c s = .next t) (hs : s.Linked) : t.Linked := by
  by_cases command : c ∈ managementCommands
  · have busy : s.port ≠ .idle ∨ s.queue = [] := (em (s.port = .idle)).elim (.inr ∘ hs.idle) .inl
    rw [exec_managementCommand_none command busy] at h
    exact Host.Outcome.next.inj h ▸ hs
  · by_cases test : testsForStart c
    · rcases test with rfl | ⟨bytes, rfl⟩
      · exact execAnswerSent_linked h hs
      · cases h
        exact hs.foldl_receiveByte bytes
    · exact (exec_moves h).linked command test hs

/-! ### The statement -/

/-- The sizes, where no more than the window's contents and fields without a size have changed. -/
theorem State.Sized.resized {s t : State} (h : s.Sized) (window : t.window.length = s.window.length)
    (records : t.records = s.records := by rfl) (egress : t.egress = s.egress := by rfl)
    (emission : t.emission = s.emission := by rfl) (transmitting : t.transmitting = s.transmitting := by rfl) :
    t.Sized :=
  ⟨records ▸ h.records, window ▸ h.window, by rw [egress, emission]; exact h.egress, by
    rw [egress, transmitting]; exact h.sending⟩

/-- R1, R108, R150: what a command makes of the sizes. -/
theorem Message.Effect.sized {m : Message} {s u : State} (h : m.Effect s u) (hs : s.Sized) : u.Sized := by
  cases h
  case drained =>
    have sized : s.drain.Sized := by
      unfold State.drain
      split_ifs
      · exact State.Sized.endDrain ⟨hs.1, hs.2, hs.3, hs.4⟩
      · exact hs
    exact ⟨sized.1, sized.2, sized.3, sized.4⟩
  case flushed =>
    have sized : s.flush.Sized := by
      unfold State.flush
      split_ifs
      · exact hs
      · refine State.Sized.endDrain (State.Sized.beginEmission ?_)
        exact hs.resized (List.length_map _)
    exact ⟨sized.1, sized.2, sized.3, sized.4⟩
  case engineReset =>
    have sized := hs.resetEngine
    exact ⟨sized.1, sized.2, sized.3, sized.4⟩
  case suspended i _ =>
    have sized := hs.moveRecord i (s.record i).suspend
    exact ⟨sized.1, sized.2, sized.3, sized.4⟩
  case restarted i _ =>
    have sized := hs.moveRecord i (s.record i).restart
    exact ⟨sized.1, sized.2, sized.3, sized.4⟩
  case amended => exact ⟨List.length_set.trans hs.1, hs.2, hs.3, hs.4⟩
  case resumed => exact ⟨List.length_set.trans hs.1, hs.2, hs.3, hs.4⟩
  case countersRead => exact ⟨List.length_set.trans hs.1, hs.2, hs.3, hs.4⟩
  case streamCausesTaken => exact ⟨List.length_set.trans hs.1, hs.2, hs.3, hs.4⟩
  all_goals exact ⟨hs.1, hs.2, hs.3, hs.4⟩

theorem State.Moves.sized {s t : State} {c : Instr} (h : s.Moves c t) (hs : s.Sized) : t.Sized := by
  cases h
  case stays => exact hs
  case powerOn => exact ⟨List.length_replicate, Nat.zero_le _, Nat.zero_le _, nofun⟩
  case edge => exact hs.setTimebase _
  case edgeSteps => exact (hs.setTimebase _).stepTime _
  case timedOut => exact hs.setTimebase _
  case edgeMissed => exact hs.setTimebase _
  case ticked e _ _ _ =>
    refine State.Sized.tick ?_ e
    exact hs.resized rfl
  case expired =>
    refine State.Sized.beginEmission ?_
    exact hs.resized (List.length_map _)
  case frameJoined =>
    refine State.Sized.takeFrame ?_
    exact hs.resized rfl
  case frameHandled => exact hs.takeFrame.endHandling.takeFrame
  case inserted =>
    refine State.Sized.takeFrame (State.Sized.setRecord ?_ _ _)
    exact hs.resized rfl
  case removed i _ _ _ =>
    refine State.Sized.takeFrame (State.Sized.beginEmission (State.Sized.setRecord ?_ _ _))
    refine hs.resized ?_
    dsimp only
    split_ifs <;> simp
  case emissionBegan => exact hs.beginEmission
  case emissionCompleted sl emitting =>
    have egress := hs.egress
    rw [emitting, if_neg nofun] at egress
    refine State.Sized.endDrain (State.Sized.beginTransmission (State.Sized.beginEmission ?_))
    exact ⟨hs.1, hs.2, by simpa using egress, fun _ => List.append_ne_nil_of_right_ne_nil _ nofun⟩
  case transmissionBegan => exact hs.beginTransmission
  case transmissionCompleted =>
    refine State.Sized.beginTransmission (State.Sized.beginEmission ⟨hs.1, hs.2, ?_, fun sending => nomatch sending⟩)
    have egress := hs.egress
    show (s.egress.drop 1).length + (if s.emission = none then 0 else 1) ≤ 4
    rw [List.length_drop]
    omega
  case readyAsserted =>
    refine State.Sized.beginTransmission ?_
    exact hs.resized rfl
  case starts effect _ =>
    have sized := effect.sized ⟨hs.1, hs.2, hs.3, hs.4⟩
    exact ⟨sized.1, sized.2, sized.3, sized.4⟩
  all_goals exact ⟨hs.1, hs.2, hs.3, hs.4⟩

theorem State.withinCapacity_iff {s : State} : s.WithinCapacity ↔ s.Sized ∧ s.Intake ∧ s.Linked := by
  constructor
  · rintro ⟨records, fifo, window, queue, egress, sending, unfinished, place, idle, taken⟩
    exact ⟨⟨records, window, egress, sending⟩, ⟨fifo, taken⟩, ⟨queue, unfinished, place, idle⟩⟩
  · rintro ⟨⟨records, window, egress, sending⟩, ⟨fifo, taken⟩, ⟨queue, unfinished, place, idle⟩⟩
    exact ⟨records, fifo, window, queue, egress, sending, unfinished, place, idle, taken⟩

/-- R31: the step on an empty queue changes no buffer. -/
theorem State.WithinCapacity.ownStep {s : State} (h : s.WithinCapacity) : s.ownStep.WithinCapacity := by
  rcases s.ownStep_cases with same | ⟨pending, same⟩ <;> rw [same] <;> exact h

/-- Settles O54: the capacities fall into three parts, the sizes of registry, window and egress buffer, the FIFO with
intake's test, and the link with the port's test, each kept by every row. -/
theorem capacitiesKept : Obligations.CapacitiesKept := by
  unfold Obligations.CapacitiesKept
  intro s t hs h
  rcases step_cases h with rfl | ⟨c, rest, -, row⟩
  · exact hs.ownStep
  · have hs' : State.WithinCapacity { s with pending := rest } := hs
    obtain ⟨sized, intake, linked⟩ := State.withinCapacity_iff.1 hs'
    exact State.withinCapacity_iff.2
      ⟨(exec_moves row).sized sized, (exec_moves row).intake intake, exec_linked row linked⟩

end Sys2Proof.Machine

/-! Local time, the rounding of a step, and the epochs around a local time; with the proofs of the statements on them. -/

namespace Sys2Proof.Machine

/-! ### Local time (R31, R32, R43) -/

theorem LocalTime.advance_of_lt {t : LocalTime} (h : t.ns < 999999992) :
    t.advance = { sec := t.sec, ns := t.ns + 8 } := if_pos (by simp only [Config.periodNs, Config.nsPerSec]; omega)

theorem LocalTime.advance_of_last {t : LocalTime} (h : t.ns = 999999992) :
    t.advance = { sec := nextSec t.sec, ns := 0 } :=
  if_neg (by simp only [Config.periodNs, Config.nsPerSec]; omega)

theorem nextSec_le {sec : Nat} (h : sec ≤ 4294967295) : nextSec sec ≤ 4294967295 := by
  rcases h.lt_or_eq with before | rfl
  · rw [nextSec_of_lt before]
    omega
  · exact Nat.zero_le _

/-- R31: the whole seconds of the range are local times. -/
theorem LocalTime.valid_wholeSecond {sec : Nat} (h : sec ≤ 4294967295) : LocalTime.valid { sec, ns := 0 } :=
  ⟨h, Nat.zero_le _, rfl⟩

theorem LocalTime.valid.advance {t : LocalTime} (h : t.valid) : t.advance.valid := by
  obtain ⟨sec, ns, period⟩ := h
  rcases ns.lt_or_eq with before | last
  · rw [LocalTime.advance_of_lt before]
    exact ⟨sec, by dsimp only; omega, by dsimp only; omega⟩
  · rw [LocalTime.advance_of_last last]
    exact LocalTime.valid_wholeSecond (nextSec_le sec)

/-- A whole multiple of the divisor is its own rounding. -/
theorem roundHalfAway_mul (k : Int) {den : Nat} (hden : 0 < den) : roundHalfAway (k * den) den = k := by
  have near := roundHalfAway_nearest (k * den) hden
  have apart : k * den - roundHalfAway (k * den) den * den = (k - roundHalfAway (k * den) den) * den := by ring
  rw [apart, Int.natAbs_mul, Int.natAbs_natCast, ← Nat.mul_assoc] at near
  have less : 2 * (k - roundHalfAway (k * den) den).natAbs ≤ 1 :=
    Nat.le_of_mul_le_mul_right (by rwa [Nat.one_mul]) hden
  omega

/-- R32: on the grid of local time the correction is the whole phase error. -/
theorem correction_of_dvd {e : Int} (h : (8 : Int) ∣ e) : correction e = -e := by
  obtain ⟨k, rfl⟩ := h
  have scaled : -(8 * k) = -k * (8 : Nat) := by push_cast; ring
  show roundHalfAway (-(8 * k)) 8 * (8 : Nat) = -(8 * k)
  rw [scaled, roundHalfAway_mul (-k) (by decide)]

theorem phaseError_early {n : Nat} (h : n < 500000000) : phaseError n = n := if_pos h

theorem phaseError_late {n : Nat} (h : 500000000 ≤ n) : phaseError n = (n : Int) - 1000000000 := if_neg (by omega)

/-- R32, R43: without an armed value an edge in the first half of a second steps back to its beginning. -/
theorem Timebase.stepTarget_early {b : Timebase} {t : LocalTime} (unarmed : b.armed = none) (ht : t.valid)
    (early : t.ns < 500000000) : b.stepTarget t = { sec := t.sec, ns := 0 } := by
  obtain ⟨sec, -, period⟩ := ht
  have grid : (8 : Int) ∣ phaseError t.ns := by rw [phaseError_early early]; omega
  have whole := correction_of_dvd grid
  rw [phaseError_early early] at whole
  simp only [Timebase.stepTarget, unarmed, phaseError_early early, whole, LocalTime.shift,
    Config.maxSec, Config.nsPerSec, LocalTime.mk.injEq]
  omega

/-- R32, R43: an edge in the second half of a second steps on to the next one. -/
theorem Timebase.stepTarget_late {b : Timebase} {t : LocalTime} (unarmed : b.armed = none) (ht : t.valid)
    (late : 500000000 ≤ t.ns) : b.stepTarget t = { sec := nextSec t.sec, ns := 0 } := by
  obtain ⟨sec, -, period⟩ := ht
  have grid : (8 : Int) ∣ phaseError t.ns := by rw [phaseError_late late]; omega
  have whole := correction_of_dvd grid
  rw [phaseError_late late] at whole
  simp only [Timebase.stepTarget, unarmed, phaseError_late late, whole, LocalTime.shift,
    Config.maxSec, Config.nsPerSec, LocalTime.mk.injEq]
  rcases sec.lt_or_eq with inside | last
  · rw [nextSec_of_lt inside]
    omega
  · rw [last, nextSec_last]
    omega

theorem Timebase.stepTarget_armed {b : Timebase} {v : Nat} (t : LocalTime) (armed : b.armed = some v) :
    b.stepTarget t = { sec := v, ns := 0 } := by
  simp only [Timebase.stepTarget, armed]

/-- R32, R43: a step lands on a local time. -/
theorem Timebase.stepTarget_valid {b : Timebase} {t : LocalTime} (armed : ∀ v ∈ b.armed, v ≤ 4294967295)
    (ht : t.valid) : (b.stepTarget t).valid := by
  cases hv : b.armed with
  | some v =>
    rw [Timebase.stepTarget_armed t hv]
    exact LocalTime.valid_wholeSecond (armed v hv)
  | none =>
    rcases Nat.lt_or_ge t.ns 500000000 with early | late
    · rw [Timebase.stepTarget_early hv ht early]
      exact LocalTime.valid_wholeSecond ht.1
    · rw [Timebase.stepTarget_late hv ht late]
      exact LocalTime.valid_wholeSecond (nextSec_le ht.1)

theorem Timebase.goodInterval_iff (b : Timebase) : b.goodInterval = true ↔
    b.prevCapture ≠ none ∧ 1000000000 ≤ b.sinceCapture * 8 + b.inForce.tolerance ∧
      b.sinceCapture * 8 ≤ 1000000000 + b.inForce.tolerance := by
  refine (Bool.and_eq_true_iff ..).trans (and_congr Option.isSome_iff_ne_none (decide_eq_true_iff.trans ?_))
  simp only [Config.periodNs, Config.nsPerSec]
  omega

/-- Settles O7: the correction is exact because local time stands on the 8 ns grid, so a step lands on the whole second
that the phase error is measured from. -/
theorem intervalsErrorsAndTargets : Obligations.IntervalsErrorsAndTargets := by
  unfold Obligations.IntervalsErrorsAndTargets
  refine ⟨Timebase.goodInterval_iff, fun n => phaseError_early, fun n => phaseError_late,
    fun b t v armed => Timebase.stepTarget_armed t armed, fun b t unarmed ht => ⟨Timebase.stepTarget_early unarmed ht,
      fun late inside => ?_, fun late last => ?_⟩⟩
  · rw [Timebase.stepTarget_late unarmed ht late, nextSec_of_lt inside]
  · rw [Timebase.stepTarget_late unarmed ht late, last, nextSec_last]

/-! ### Epochs (R45, R46, R48) -/

theorem outputRates_pos {rout : Nat} (h : rout ∈ outputRates) : 0 < rout := (outputRates_bounds rout h).1

/-- R46: the epoch after another is the next one in order, and of the range. -/
theorem Epoch.succ_spec {rout : Nat} {e next : Epoch} (index : e.k < rout) (sec : e.sec ≤ 4294967295)
    (h : e.succ rout = some next) :
    next.sec ≤ 4294967295 ∧ next.k < rout ∧ next.key rout = e.key rout + 1 := by
  unfold Epoch.succ at h
  split_ifs at h with inside before <;> cases h
  · exact ⟨sec, inside, rfl⟩
  · have last : e.k + 1 = rout := by omega
    refine ⟨before, by dsimp only; omega, ?_⟩
    show (e.sec + 1) * rout + 0 = e.sec * rout + e.k + 1
    rw [Nat.succ_mul]
    omega

/-- R46: only the last epoch of the range has none after it. -/
theorem Epoch.succ_none {rout : Nat} {e : Epoch} (h : e.succ rout = none) :
    rout ≤ e.k + 1 ∧ 4294967295 ≤ e.sec := by
  unfold Epoch.succ at h
  split_ifs at h with inside before
  exact ⟨Nat.not_lt.1 inside, Nat.not_lt.1 before⟩

/-- R48: an index is reached within a second when its instant is. -/
theorem instantNs_le_iff {rout k ns : Nat} (hr : 0 < rout) :
    k * 1000000000 / rout ≤ ns ↔ k ≤ ((ns + 1) * rout - 1) / 1000000000 := by
  rw [Nat.le_div_iff_mul_le (by decide), ← Nat.lt_succ_iff, Nat.div_lt_iff_lt_mul hr]
  have : 0 < (ns + 1) * rout := Nat.mul_pos (Nat.succ_pos ns) hr
  show k * 1000000000 < (ns + 1) * rout ↔ _
  omega

/-- R48: the index of the latest epoch is one of the output rate's. -/
theorem latestEpoch_k_lt {rout : Nat} {t : LocalTime} (hr : 0 < rout) (ht : t.ns ≤ 999999992) :
    (latestEpoch rout t).k < rout := by
  refine (Nat.div_lt_iff_lt_mul (by decide)).2 ?_
  have scaled : (t.ns + 1) * rout ≤ 1000000000 * rout := Nat.mul_le_mul_right rout (by omega)
  have : 0 < (t.ns + 1) * rout := Nat.mul_pos (Nat.succ_pos _) hr
  show (t.ns + 1) * rout - 1 < rout * 1000000000
  omega

/-- Keys of epochs of one output rate are ordered by second, then by index. -/
theorem Epoch.key_le_iff {rout : Nat} {e e' : Epoch} (h : e.k < rout) (h' : e'.k < rout) :
    e.key rout ≤ e'.key rout ↔ e.sec < e'.sec ∨ (e.sec = e'.sec ∧ e.k ≤ e'.k) := by
  unfold Epoch.key
  rcases Nat.lt_trichotomy e.sec e'.sec with before | same | behind
  · have scaled : (e.sec + 1) * rout ≤ e'.sec * rout := Nat.mul_le_mul_right rout before
    rw [Nat.succ_mul] at scaled
    omega
  · rw [same]
    omega
  · have scaled : (e'.sec + 1) * rout ≤ e.sec * rout := Nat.mul_le_mul_right rout behind
    rw [Nat.succ_mul] at scaled
    omega

/-- R48: an epoch is reached exactly when it is not after the latest one. -/
theorem reached_iff_key_le {rout : Nat} {e : Epoch} {t : LocalTime} (hr : 0 < rout) (ht : t.ns ≤ 999999992)
    (index : e.k < rout) : (e.instant rout).atOrBefore t ↔ e.key rout ≤ (latestEpoch rout t).key rout := by
  rw [Epoch.key_le_iff index (latestEpoch_k_lt hr ht)]
  exact or_congr_right (and_congr_right fun _ => instantNs_le_iff hr)

theorem LocalTime.before_iff_not_atOrBefore (a b : LocalTime) : a.before b ↔ ¬ b.atOrBefore a := by
  simp only [LocalTime.before, LocalTime.atOrBefore]
  omega

/-- R45: the first epoch after a local time is of the range. -/
theorem firstEpochAfter_spec {rout : Nat} {t : LocalTime} {e : Epoch} (hr : 0 < rout) (ht : t.valid)
    (h : firstEpochAfter rout t = some e) :
    e.sec ≤ 4294967295 ∧ e.k < rout ∧ e.key rout = (latestEpoch rout t).key rout + 1 :=
  Epoch.succ_spec (latestEpoch_k_lt hr ht.2.1) ht.1 h

/-- Settles O12: an epoch of the rate is reached exactly when its key is at most the latest epoch's, and the first epoch
after has the next key. -/
theorem epochsAroundALocalTime : Obligations.EpochsAroundALocalTime := by
  unfold Obligations.EpochsAroundALocalTime
  intro rout t hrout ht
  have hr := outputRates_pos hrout
  have reached (e : Epoch) (index : e.k < rout) := reached_iff_key_le (e := e) hr ht.2.1 index
  have index := latestEpoch_k_lt hr ht.2.1
  refine ⟨?latest, ?first, ?none⟩
  case latest =>
    rintro _ rfl
    exact ⟨rfl, index, (reached _ index).2 le_rfl, fun e he => (reached e he).1⟩
  case first =>
    intro e h
    obtain ⟨sec, index', key⟩ := firstEpochAfter_spec hr ht h
    refine ⟨sec, index', ?_, fun e' he' after => ?_⟩
    · rw [LocalTime.before_iff_not_atOrBefore, reached e index']
      omega
    · rw [LocalTime.before_iff_not_atOrBefore, reached e' he'] at after
      omega
  case none =>
    intro h e sec he
    obtain ⟨lastIndex, lastSec⟩ := Epoch.succ_none h
    rw [LocalTime.before_iff_not_atOrBefore, not_not, reached e he, Epoch.key_le_iff he index]
    omega

end Sys2Proof.Machine

/-! The ranges of local time, of the timebase and of the alignment settings, which every row keeps. -/

namespace Sys2Proof.Machine

/-! ### The ranges of the items (section 9.4) -/

theorem itemValue_mem {code v : Nat} {items : List Item} (h : itemValue code items = some v) : (code, v) ∈ items := by
  simp only [itemValue, Option.map_eq_some_iff] at h
  obtain ⟨⟨code', v'⟩, found, rfl⟩ := h
  have named : code' = code := by simpa using List.find?_some found
  exact named ▸ List.mem_of_find?_eq_some found

/-- R168: the items of an accepted list are in range. -/
theorem itemValue_inRange {code v : Nat} {items : List Item} (inRange : items.all itemInRange = true)
    (h : itemValue code items = some v) : itemInRange (code, v) = true :=
  List.all_eq_true.1 inRange _ (itemValue_mem h)

/-- The codes whose values lie between two bounds, with the bounds. -/
def itemBounds : List (Nat × Nat × Nat) :=
  [(1, 0, 1), (2, 0, 1), (3, 0, 5000), (4, 0, 10000), (6, 2, 255), (7, 0, 15), (8, 0, 65535), (9, 0, 63), (18, 0, 1),
    (19, 1000, 10000000), (20, 1000, 10000000), (21, 1000, 10000000), (22, 0, 127), (24, 100, 100000),
    (25, 100, 100000), (26, 1, 3600)]

theorem itemInRange_iff_bounds {row : Nat × Nat × Nat} (h : row ∈ itemBounds) (v : Nat) :
    itemInRange (row.1, v) = true ↔ row.2.1 ≤ v ∧ v ≤ row.2.2 := by
  simp only [itemBounds, List.mem_cons, List.not_mem_nil, or_false] at h
  rcases h with rfl | rfl | rfl | rfl | rfl | rfl | rfl | rfl | rfl | rfl | rfl | rfl | rfl | rfl | rfl | rfl <;>
    simp [itemInRange]

theorem itemInRange_filter (v : Nat) : itemInRange (5, v) = true ↔ v ∈ [1, 2, 4, 8] := List.contains_iff_mem

theorem itemInRange_rate (v : Nat) : itemInRange (16, v) = true ↔ v ∈ outputRates := List.contains_iff_mem

theorem itemInRange_nominal (v : Nat) : itemInRange (17, v) = true ↔ v = 50 ∨ v = 60 := by simp [itemInRange]

/-- What holds of every value that an option can hold, and of its default, holds of the value it gives. -/
theorem holds_getD {α : Type} {p : α → Prop} {o : Option α} {d : α} (value : ∀ v, o = some v → p v) (default : p d) :
    p (o.getD d) := by
  cases o with
  | none => exact default
  | some v => exact value v rfl

/-- R136, R138: a list in range leaves the settings in range. -/
theorem AlignSettings.withItems_valid {g : AlignSettings} {items : List Item} (hg : g.valid)
    (inRange : items.all itemInRange = true) (ordered : (g.withItems items).wMin ≤ (g.withItems items).wMax) :
    (g.withItems items).valid := by
  obtain ⟨rout, f0, fixed, fixed', min, min', max, max', margin, -⟩ := hg
  have bounds {row : Nat × Nat × Nat} (hrow : row ∈ itemBounds) (v : Nat) (h : itemValue row.1 items = some v) :=
    (itemInRange_iff_bounds hrow v).1 (itemValue_inRange inRange h)
  have fixedWait := bounds (row := (19, 1000, 10000000)) (by decide)
  have minWait := bounds (row := (20, 1000, 10000000)) (by decide)
  have maxWait := bounds (row := (21, 1000, 10000000)) (by decide)
  have margins := bounds (row := (22, 0, 127)) (by decide)
  refine ⟨holds_getD (p := (· ∈ outputRates)) (fun v h => ?_) rout,
    holds_getD (p := fun v => v = 50 ∨ v = 60) (fun v h => ?_) f0,
    holds_getD (p := (1000 ≤ ·)) (fun v h => (fixedWait v h).1) fixed,
    holds_getD (p := (· ≤ 10000000)) (fun v h => (fixedWait v h).2) fixed',
    holds_getD (p := (1000 ≤ ·)) (fun v h => (minWait v h).1) min,
    holds_getD (p := (· ≤ 10000000)) (fun v h => (minWait v h).2) min',
    holds_getD (p := (1000 ≤ ·)) (fun v h => (maxWait v h).1) max,
    holds_getD (p := (· ≤ 10000000)) (fun v h => (maxWait v h).2) max',
    holds_getD (p := (· ≤ 127)) (fun v h => (margins v h).2) margin, ordered⟩
  · exact (itemInRange_rate v).1 (itemValue_inRange inRange h)
  · exact (itemInRange_nominal v).1 (itemValue_inRange inRange h)

/-- R34, R171: a list in range leaves what is staged in range. -/
theorem TbStaged.withItems_valid {g : TbStaged} {items : List Item} (hg : g.valid)
    (inRange : items.all itemInRange = true) : (g.withItems items).valid := by
  have bounds {row : Nat × Nat × Nat} (hrow : row ∈ itemBounds) (v : Nat) (h : itemValue row.1 items = some v) :=
    (itemInRange_iff_bounds hrow v).1 (itemValue_inRange inRange h)
  have staged {row : Nat × Nat × Nat} (hrow : row ∈ itemBounds) {old : Option Nat}
      (hold : ∀ v ∈ old, row.2.1 ≤ v ∧ v ≤ row.2.2) : ∀ v ∈ (itemValue row.1 items).or old, row.2.1 ≤ v ∧ v ≤ row.2.2 := by
    intro v hv
    rcases Option.or_eq_some_iff.1 hv with named | ⟨-, kept⟩
    · exact bounds hrow v named
    · exact hold v kept
  obtain ⟨tolerance, stepLimit, holdoverLimit⟩ := hg
  exact ⟨staged (row := (24, 100, 100000)) (by decide) tolerance, staged (row := (25, 100, 100000)) (by decide) stepLimit,
    staged (row := (26, 1, 3600)) (by decide) holdoverLimit⟩

/-! ### Byte fields -/

theorem beNat_append_singleton (bs : List Byte) (b : Byte) : beNat (bs ++ [b]) = beNat bs * 256 + b.toNat := by
  simp [beNat]

theorem beNat_lt (bs : List Byte) : beNat bs < 256 ^ bs.length := by
  induction bs using List.reverseRecOn with
  | nil => simp [beNat]
  | append_singleton bs b ih =>
    have byte := b.isLt
    rw [beNat_append_singleton, List.length_append, List.length_singleton, Nat.pow_succ]
    omega

/-- A field of `size` bytes has a value of `size` bytes. -/
theorem fieldAt_lt (bs : List Byte) (offset size : Nat) : fieldAt bs offset size < 256 ^ size := by
  refine (beNat_lt _).trans_le (Nat.pow_le_pow_right (by decide) ?_)
  exact List.length_take_le _ _

/-! ### The timebase (section 2.4) -/

/-- R34: the staged settings, within the ranges, come into force. -/
theorem Timebase.valid.applyStaged {b : Timebase} (h : b.valid) : b.applyStaged.valid := by
  obtain ⟨⟨tol, tol', step, step', hold, hold'⟩, ⟨stol, sstep, shold⟩, rest⟩ := h
  exact ⟨⟨holds_getD (p := (100 ≤ ·)) (fun v h => (stol v h).1) tol,
    holds_getD (p := (· ≤ 100000)) (fun v h => (stol v h).2) tol',
    holds_getD (p := (100 ≤ ·)) (fun v h => (sstep v h).1) step,
    holds_getD (p := (· ≤ 100000)) (fun v h => (sstep v h).2) step',
    holds_getD (p := (1 ≤ ·)) (fun v h => (shold v h).1) hold,
    holds_getD (p := (· ≤ 3600)) (fun v h => (shold v h).2) hold'⟩, ⟨nofun, nofun, nofun⟩, rest⟩

/-- What an edge makes of the state and the counts of a timebase: never FREE, and the counts below 2. -/
theorem Timebase.judge_counts {b : Timebase} (t : LocalTime) (h : b.valid) :
    (b.judge t).1.state ≠ .free ∧ ((b.judge t).1.state = .acquiring → (b.judge t).1.good < 2) ∧
      (b.judge t).1.bad < 2 := by
  obtain ⟨-, -, -, -, free, good, bad⟩ := h
  unfold Timebase.judge
  cases hb : b.state <;> simp only
  case free => exact ⟨by simp, by simp, bad⟩
  case acquiring =>
    have := good hb
    split_ifs
    · exact ⟨by simp, by simp, by simp⟩
    · exact ⟨by simp, fun _ => by dsimp only; omega, bad⟩
    · exact ⟨by simp, fun _ => by dsimp only; omega, bad⟩
  case locked =>
    split_ifs
    · exact ⟨by simp, by simp, by simp⟩
    · exact ⟨by simp, by simp, by simp⟩
    · exact ⟨by simp, by simp, by dsimp only; omega⟩
  case holdover =>
    split_ifs
    · exact ⟨by simp, by simp, by simp⟩
    · exact ⟨by simp, by simp, bad⟩

/-- R35 to R40: an edge is judged with settings and an armed value that it leaves alone. -/
theorem Timebase.judge_frame (t : LocalTime) (b : Timebase) :
    (b.judge t).1.inForce = b.inForce ∧ (b.judge t).1.staged = b.staged ∧ (b.judge t).1.armed = b.armed := by
  unfold Timebase.judge
  cases b.state <;> dsimp only
  case free => exact ⟨rfl, rfl, rfl⟩
  all_goals split_ifs <;> exact ⟨rfl, rfl, rfl⟩

theorem Timebase.valid.judged {b : Timebase} (h : b.valid) (t now : LocalTime) :
    ((b.judge t).1.capture now).valid := by
  obtain ⟨held, good, bad⟩ := b.judge_counts t h
  obtain ⟨inForce, staged, armed⟩ := b.judge_frame t
  refine ⟨?_, ?_, ?_, iff_of_false held nofun, fun free => absurd free held, good, bad⟩
  · rw [Timebase.capture_inForce, inForce]
    exact h.1
  · rw [Timebase.capture_staged, staged]
    exact h.2.1
  · rw [Timebase.capture_armed, armed]
    exact h.2.2.1

theorem Timebase.valid.disarmed {b : Timebase} (h : b.valid) : Timebase.valid { b with armed := none } :=
  ⟨h.1, h.2.1, nofun, h.2.2.2⟩

theorem Timebase.valid.enterFree {b : Timebase} (h : b.valid) : b.enterFree.valid :=
  ⟨h.1, h.2.1, h.2.2.1, iff_of_true rfl rfl, fun _ => ⟨rfl, rfl⟩, fun acquiring => (nomatch acquiring), Nat.zero_lt_two⟩

/-- R39: HOLDOVER keeps the capture of the LOCKED timebase. -/
theorem Timebase.valid.holdover {b : Timebase} (h : b.valid) (locked : b.state = .locked) :
    Timebase.valid { b with state := .holdover, inHoldover := 0 } := by
  obtain ⟨inForce, staged, armed, captured, -, -, bad⟩ := h
  refine ⟨inForce, staged, armed, iff_of_false nofun fun none => ?_, nofun, nofun, bad⟩
  exact absurd (locked.symm.trans (captured.2 none)) (by decide)

/-! ### Every row -/

/-- The ranges look at local time, the timebase and the alignment settings alone. -/
theorem State.InRange.of_same {s t : State} (h : s.InRange) (time : t.time = s.time) (tb : t.tb = s.tb)
    (settings : t.settings = s.settings) : t.InRange := by
  unfold State.InRange
  rw [time, tb, settings]
  exact h

theorem State.InRange.of_outside {s t : State} (h : s.InRange) (outside : t.outside = s.outside) : t.InRange :=
  h.of_same (congrArg State.time outside :) (congrArg State.tb outside :) (congrArg State.settings outside :)

theorem State.InRange.setTimebase {s : State} (h : s.InRange) {b : Timebase} (hb : b.valid) :
    (s.setTimebase b).InRange := by
  refine ⟨?_, ?_, ?_⟩
  · rw [State.setTimebase_time]; exact h.1
  · rw [State.setTimebase_tb]; exact hb
  · rw [State.setTimebase_settings]; exact h.2.2

theorem State.InRange.stepTime {s : State} (h : s.InRange) {t : LocalTime} (ht : t.valid) : (s.stepTime t).InRange := by
  have same := State.stepTime_outside t s
  refine ⟨?_, ?_, ?_⟩
  · exact (congrArg State.time same :) ▸ ht
  · exact (congrArg State.tb same :) ▸ h.2.1
  · exact (congrArg State.settings same :) ▸ h.2.2

theorem Message.Effect.inRange {m : Message} {s u : State} (h : m.Effect s u) (hs : s.InRange) : u.InRange := by
  obtain ⟨time, tb, settings⟩ := id hs
  cases h
  case configured items _ _ inRange ordered _ => exact ⟨time, tb, AlignSettings.withItems_valid settings inRange ordered⟩
  case staged items inRange => exact ⟨time, ⟨tb.1, TbStaged.withItems_valid tb.2.1 inRange, tb.2.2⟩, settings⟩
  case timeSet =>
    exact ⟨LocalTime.valid_wholeSecond (Nat.lt_succ_iff.1 (fieldAt_lt m.body 0 4)), tb.disarmed, settings⟩
  case armed =>
    refine ⟨time, ⟨tb.1, tb.2.1, ?_, tb.2.2.2⟩, settings⟩
    rintro _ ⟨⟩
    exact Nat.lt_succ_iff.1 (fieldAt_lt m.body 0 4)
  case drained =>
    have same := s.drain_outside
    exact hs.of_same (congrArg State.time same :) (congrArg State.tb same :) (congrArg State.settings same :)
  case flushed =>
    have same := s.flush_outside
    exact hs.of_same (congrArg State.time same :) (congrArg State.tb same :) (congrArg State.settings same :)
  case engineReset =>
    have same := s.resetEngine_outside
    exact hs.of_same (congrArg State.time same :) (congrArg State.tb same :) (congrArg State.settings same :)
  case suspended i _ =>
    exact hs.of_same (State.moveRecord_time i _ s) (State.moveRecord_tb i _ s) (State.moveRecord_settings i _ s)
  case restarted i _ =>
    exact hs.of_same (State.moveRecord_time i _ s) (State.moveRecord_tb i _ s) (State.moveRecord_settings i _ s)
  all_goals exact hs

theorem State.InRange.reset : State.reset.InRange := by
  unfold State.InRange LocalTime.valid Timebase.valid TbSettings.valid TbStaged.valid AlignSettings.valid
  decide

theorem State.Moves.inRange {s t : State} {c : Instr} (h : s.Moves c t) (hs : s.InRange) : t.InRange := by
  obtain ⟨time, tb, settings⟩ := id hs
  cases h
  case powerOn => exact State.InRange.reset
  case edge => exact hs.setTimebase (tb.applyStaged.judged _ _)
  case edgeSteps =>
    exact (hs.setTimebase (tb.applyStaged.judged _ _).disarmed).stepTime (Timebase.stepTarget_valid tb.2.2.1 time)
  case timedOut => exact hs.setTimebase tb.enterFree
  case edgeMissed locked => exact hs.setTimebase (tb.holdover locked)
  case ticked e _ _ _ =>
    have hs' : State.InRange { s with nextEpoch := e.succ s.settings.rout } := hs
    exact hs'.of_outside (State.tick_outside e _)
  case frameHandled =>
    have same := s.takeFrame.endHandling_outside
    refine hs.of_same ?_ ?_ ?_
    · exact (State.takeFrame_time _).trans ((congrArg State.time same :).trans s.takeFrame_time)
    · exact (State.takeFrame_tb _).trans ((congrArg State.tb same :).trans s.takeFrame_tb)
    · exact (State.takeFrame_settings _).trans ((congrArg State.settings same :).trans s.takeFrame_settings)
  case starts effect _ => exact effect.inRange hs
  all_goals exact hs.of_same (by simp) (by simp) (by simp)

/-- R31: a period of the clock stays within the ranges. -/
theorem State.InRange.ownStep {s : State} (h : s.InRange) : s.ownStep.InRange := by
  rcases s.ownStep_cases with same | ⟨pending, same⟩ <;> rw [same]
  · exact h
  · exact ⟨h.1.advance, h.2.1, h.2.2⟩

end Sys2Proof.Machine

/-! The run: the keys of its slots, what each shared operation makes of them, and the proof that every step keeps the run
state consistent and the slots and sets in order. -/

namespace Sys2Proof.Machine

/-! ### The keys of the slots of the run -/

/-- R146: the order keys of the slots that have not become sets, oldest first. -/
def State.slotKeys (s : State) : List Nat := s.slots.map (fun sl => sl.epoch.key s.settings.rout)

theorem State.slotKeys_eq_nil {s : State} : s.slotKeys = [] ↔ s.window = [] ∧ s.emission = none := by
  simp [State.slotKeys, State.slots, and_comm]

/-- The keys look at the epochs of the window's slots, the emission and the output rate alone. -/
theorem State.slotKeys_of_same {s t : State} (window : t.window.map (·.epoch) = s.window.map (·.epoch))
    (emission : t.emission = s.emission) (settings : t.settings = s.settings) : t.slotKeys = s.slotKeys := by
  have keys (l : List Slot) :
      l.map (fun sl => sl.epoch.key s.settings.rout) = (l.map (·.epoch)).map (Epoch.key s.settings.rout) := by
    simp [Function.comp_def]
  simp only [State.slotKeys, State.slots, List.map_append, emission, settings, keys, window]

/-- R144: the slot that an emission takes stays first among the slots of the run. -/
@[simp] theorem State.beginEmission_slots (s : State) : s.beginEmission.slots = s.slots := by
  rcases s.beginEmission_cases with h | ⟨sl, rest, hw, -, ⟨idle, -⟩, h⟩ <;> rw [h]
  simp [State.slots, hw, idle]

/-- `t` has the run of `s`: its slots by their keys, its newest and next epoch, its state, its settings and its sets. -/
structure State.SameRun (s t : State) : Prop where
  keys : t.slotKeys = s.slotKeys
  newest : t.newest = s.newest
  nextEpoch : t.nextEpoch = s.nextEpoch
  run : t.run = s.run
  settings : t.settings = s.settings
  egress : t.egress = s.egress

theorem State.SameRun.refl (s : State) : s.SameRun s := ⟨rfl, rfl, rfl, rfl, rfl, rfl⟩

theorem State.SameRun.trans {s t u : State} (h : s.SameRun t) (h' : t.SameRun u) : s.SameRun u :=
  ⟨h'.keys.trans h.keys, h'.newest.trans h.newest, h'.nextEpoch.trans h.nextEpoch, h'.run.trans h.run,
    h'.settings.trans h.settings, h'.egress.trans h.egress⟩

theorem State.SameRun.of_outside {s t : State} (outside : t.outside = s.outside) (newest : t.newest = s.newest)
    (keys : t.slotKeys = s.slotKeys) : s.SameRun t :=
  ⟨keys, newest, (congrArg State.nextEpoch outside :), (congrArg State.run outside :),
    (congrArg State.settings outside :), (congrArg State.egress outside :)⟩

/-- A change that leaves every epoch of the window is none of the run. -/
theorem State.SameRun.of_window {s t : State} (outside : t.outside = s.outside)
    (window : t.window.map (·.epoch) = s.window.map (·.epoch)) (emission : t.emission = s.emission := by rfl)
    (newest : t.newest = s.newest := by rfl) : s.SameRun t :=
  .of_outside outside newest (State.slotKeys_of_same window emission (congrArg State.settings outside :))

theorem State.SameRun.beginEmission (s : State) : s.SameRun s.beginEmission := by
  refine .of_outside s.beginEmission_outside s.beginEmission_newest ?_
  simp [State.slotKeys]

theorem State.SameRun.setRecord (i : Nat) (r : Record) (s : State) : s.SameRun (s.setRecord i r) :=
  ⟨rfl, rfl, rfl, rfl, rfl, rfl⟩

/-- A map that leaves the epochs is none of the run. -/
theorem State.SameRun.mapWindow {s : State} {f : Slot → Slot} (epoch : ∀ sl, (f sl).epoch = sl.epoch) :
    s.SameRun { s with window := s.window.map f } := by
  refine .of_window rfl ?_
  show (s.window.map f).map _ = _
  simp [Function.comp_def, epoch]

theorem State.SameRun.leaveActive (i : Nat) (s : State) : s.SameRun (s.leaveActive i) :=
  .mapWindow (Slot.dropExpected_epoch i)

theorem State.SameRun.placeEntry (i : Nat) (r : Record) (al : Aligned) (s : State) : s.SameRun (s.placeEntry i r al) := by
  refine .mapWindow fun sl => ?_
  split_ifs
  · simp [Slot.place]
  · rfl

theorem State.SameRun.makeRoom (s : State) : s.SameRun s.makeRoom := by
  rcases s.makeRoom_cases with h | h | ⟨sl, rest, hw, -, h⟩ <;> rw [h]
  · exact .refl s
  · exact .beginEmission s
  · refine State.SameRun.trans ?_ (.beginEmission _)
    refine .of_window rfl ?_
    show (sl.release .windowFull :: rest).map (·.epoch) = _
    simp [hw]

@[simp] theorem Slot.foldl_dropExpected_epoch (fell : List Nat) (sl : Slot) :
    (fell.foldl (fun acc i => Slot.dropExpected i acc) sl).epoch = sl.epoch := by
  induction fell generalizing sl with
  | nil => rfl
  | cons i fell ih => simp [ih]

/-- What a tick does to the window before the slot opens: the records that fall SILENT leave the expected sets. -/
theorem State.beforeOpening_window (k : Nat) (s : State) : ∃ fell : List Nat,
    (s.beforeOpening k).window = s.window.map (fun sl => fell.foldl (fun acc i => Slot.dropExpected i acc) sl) ∧
      (s.beforeOpening k).emission = s.emission ∧ (s.beforeOpening k).newest = s.newest := by
  simp only [State.beforeOpening, State.countSilence, State.foldl_leaveActive]
  exact ⟨_, rfl, rfl, rfl⟩

theorem State.SameRun.beforeOpening (k : Nat) (s : State) : s.SameRun (s.beforeOpening k) := by
  obtain ⟨fell, window, emission, newest⟩ := s.beforeOpening_window k
  refine .of_window (s.beforeOpening_outside k) ?_ emission newest
  simp [window, Function.comp_def]

theorem State.SameRun.skipEpochs (n : Nat) (s : State) : s.SameRun (s.skipEpochs n) := by
  unfold State.skipEpochs
  split_ifs
  · exact .refl s
  · exact ⟨rfl, rfl, rfl, rfl, rfl, rfl⟩

/-- A tick has opened the slot of `e`: it is the newest of the run, whose epoch is now the newest. -/
structure State.Opened (e : Epoch) (s t : State) : Prop where
  keys : t.slotKeys = s.slotKeys ++ [e.key s.settings.rout]
  newest : ∃ wait, t.newest = some { epoch := e, wait }
  outside : t.outside = s.outside

/-- R112 to R114: a tick skips its epoch or opens its slot. -/
theorem State.tick_run (e : Epoch) (s : State) : s.SameRun (s.tick e) ∨ s.Opened e (s.tick e) := by
  have outside := s.tick_outside e
  revert outside
  dsimp only [State.tick]
  split_ifs with room <;> intro outside
  · right
    set u := s.makeRoom.beforeOpening e.k with hu
    have before : s.SameRun u := (State.SameRun.makeRoom s).trans (.beforeOpening e.k _)
    have after := State.SameRun.beginEmission (u.pushSlot e)
    refine ⟨?_, ⟨u.waitNow, after.newest⟩, outside⟩
    have pushed : (u.pushSlot e).slotKeys = u.slotKeys ++ [e.key u.settings.rout] := by
      simp [State.slotKeys, State.slots, State.newSlot]
    rw [after.keys, pushed, before.keys, before.settings]
  · exact .inl ((State.SameRun.makeRoom s).trans (.skipEpochs 1 _))

theorem State.SameRun.takeFrame (s : State) : s.SameRun s.takeFrame := by
  refine ⟨?_, by simp, by simp, by simp, by simp, by simp⟩
  simp [State.slotKeys, State.slots]

theorem State.SameRun.applyDisposition (d : Disposition) (s : State) : s.SameRun (s.applyDisposition d) := by
  cases d
  case unknown => exact ⟨rfl, rfl, rfl, rfl, rfl, rfl⟩
  case placed i al => exact ((State.SameRun.setRecord i _ s).trans (.placeEntry i _ al _)).trans (.beginEmission _)
  all_goals exact .setRecord _ _ s

theorem State.SameRun.endHandling (s : State) : s.SameRun s.endHandling := by
  rcases s.endHandling_cases with ⟨-, h⟩ | ⟨f, -, h⟩ <;> rw [h]
  · exact .refl s
  · refine State.SameRun.trans ?_ (.applyDisposition _ _)
    exact ⟨rfl, rfl, rfl, rfl, rfl, rfl⟩

theorem State.SameRun.moveRecord (i : Nat) (r : Record) (s : State) : s.SameRun (s.moveRecord i r) := by
  unfold State.moveRecord
  split_ifs
  · exact ((State.SameRun.leaveActive i s).trans (.setRecord i r _)).trans (.beginEmission _)
  · exact .setRecord i r s

/-- R20, R29: the completion of a removal edit. -/
theorem State.SameRun.removed (i : Nat) (directory : List (Nat × Nat)) (port : MgmtPort) (r : Record) (s : State) :
    s.SameRun ((({ s with
      window := if (s.record i).state = RecState.active then s.window.map (Slot.dropExpected i) else s.window
      directory, port }.setRecord i r).beginEmission).takeFrame) := by
  refine State.SameRun.trans (State.SameRun.trans ?_ (.beginEmission _)) (.takeFrame _)
  split_ifs
  · exact (State.SameRun.leaveActive i s).trans ⟨rfl, rfl, rfl, rfl, rfl, rfl⟩
  · exact ⟨rfl, rfl, rfl, rfl, rfl, rfl⟩

theorem State.SameRun.beginTransmission (s : State) : s.SameRun s.beginTransmission := by
  refine ⟨?_, by simp, by simp, by simp, by simp, by simp⟩
  simp [State.slotKeys, State.slots]

theorem State.SameRun.setTimebase (b : Timebase) (s : State) : s.SameRun (s.setTimebase b) := by
  refine ⟨?_, by simp, by simp, by simp, by simp, by simp⟩
  simp [State.slotKeys, State.slots]

end Sys2Proof.Machine

/-! The proof that every step keeps the run state consistent and the slots of the run in order. -/

namespace Sys2Proof.Machine

/-! ### The run invariant by the keys of the slots -/

/-- The part of the run invariant that is no range. -/
def State.Orderly (s : State) : Prop := s.RunConsistent ∧ s.InOrder

/-- R115: no key is newer than the run's newest epoch. -/
def State.Bounds (s : State) (keys : List Nat) : Prop :=
  ∀ key ∈ keys, ∃ n ∈ s.newest, key ≤ n.epoch.key s.settings.rout

/-- R45: the next epoch is of the range and of the output rate, and newer than the run's newest. -/
def State.NextAhead (s : State) : Prop :=
  ∀ e ∈ s.nextEpoch, e.sec ≤ 4294967295 ∧ e.k < s.settings.rout ∧
    ∀ n ∈ s.newest, n.epoch.key s.settings.rout < e.key s.settings.rout

theorem State.inOrder_iff {s : State} :
    s.InOrder ↔ s.slotKeys.Pairwise (· < ·) ∧ s.Bounds s.slotKeys ∧ s.NextAhead :=
  and_congr_right fun _ => and_congr_left fun _ => by
    simp only [State.Bounds, State.slotKeys, List.forall_mem_map]

theorem State.runConsistent_iff {s : State} : s.RunConsistent ↔
    (s.run = .stopped → s.slotKeys = []) ∧ (s.run = .draining → s.slotKeys ≠ []) ∧
      (s.run ≠ .running → s.nextEpoch = none) := by
  simp only [State.RunConsistent, State.slotKeys_eq_nil, ne_eq, not_and_or]

/-- The run invariant, its parts by name. -/
structure State.OrderlyBy (s : State) : Prop where
  stopped : s.run = .stopped → s.slotKeys = []
  draining : s.run = .draining → s.slotKeys ≠ []
  next : s.run ≠ .running → s.nextEpoch = none
  ascending : s.slotKeys.Pairwise (· < ·)
  bounded : s.Bounds s.slotKeys
  ahead : s.NextAhead

theorem State.orderly_iff {s : State} : s.Orderly ↔ s.OrderlyBy := by
  rw [State.Orderly, State.runConsistent_iff, State.inOrder_iff]
  exact ⟨fun ⟨⟨a, b, c⟩, d, e, f⟩ => ⟨a, b, c, d, e, f⟩, fun ⟨a, b, c, d, e, f⟩ => ⟨⟨a, b, c⟩, d, e, f⟩⟩

theorem State.Bounds.of_same {s t : State} {keys : List Nat} (h : s.Bounds keys) (newest : t.newest = s.newest)
    (settings : t.settings = s.settings) : t.Bounds keys := by
  unfold State.Bounds
  rw [newest, settings]
  exact h

theorem State.NextAhead.of_same {s t : State} (h : s.NextAhead) (newest : t.newest = s.newest)
    (settings : t.settings = s.settings) (next : t.nextEpoch = s.nextEpoch) : t.NextAhead := by
  unfold State.NextAhead
  rw [newest, settings, next]
  exact h

theorem State.OrderlyBy.of_same {s t : State} (h : s.OrderlyBy) (same : s.SameRun t) : t.OrderlyBy where
  stopped stopped := same.keys.trans (h.stopped (same.run ▸ stopped))
  draining draining := by rw [same.keys]; exact h.draining (same.run ▸ draining)
  next notRunning := same.nextEpoch.trans (h.next (same.run ▸ notRunning))
  ascending := by rw [same.keys]; exact h.ascending
  bounded := by rw [same.keys]; exact h.bounded.of_same same.newest same.settings
  ahead := h.ahead.of_same same.newest same.settings same.nextEpoch

/-- A new greatest key goes last. -/
theorem pairwise_append_singleton {keys : List Nat} {key : Nat} (h : keys.Pairwise (· < ·)) (hk : ∀ k ∈ keys, k < key) :
    (keys ++ [key]).Pairwise (· < ·) :=
  List.pairwise_append.2 ⟨h, List.pairwise_singleton _ _, fun k mem _ single => List.mem_singleton.1 single ▸ hk k mem⟩

/-- R115: keys bounded by the run's newest epoch lie below an epoch newer than that. -/
theorem State.Bounds.lt {s : State} {keys : List Nat} {e : Epoch} (h : s.Bounds keys)
    (above : ∀ n ∈ s.newest, n.epoch.key s.settings.rout < e.key s.settings.rout) :
    ∀ k ∈ keys, k < e.key s.settings.rout := by
  intro k mem
  obtain ⟨n, newest, le⟩ := h k mem
  exact le.trans_lt (above n newest)

/-- R108, R115: past the keys of older slots and sets, the slot that has opened is the newest. -/
theorem State.Opened.bounds {s t : State} {e : Epoch} (h : s.Opened e t) {keys : List Nat} (bounded : s.Bounds keys)
    (above : ∀ n ∈ s.newest, n.epoch.key s.settings.rout < e.key s.settings.rout) :
    t.Bounds (keys ++ [e.key s.settings.rout]) := by
  obtain ⟨wait, newest⟩ := h.newest
  have settings : t.settings = s.settings := (congrArg State.settings h.outside :)
  intro k mem
  refine ⟨_, newest, ?_⟩
  rw [settings]
  rcases List.mem_append.1 mem with older | new
  · exact (bounded.lt above k older).le
  · exact (List.mem_singleton.1 new).le

/-- R47, R112 to R115: a tick of a RUNNING engine for an epoch newer than its newest, the next epoch moved past it. -/
theorem State.OrderlyBy.tick {s : State} {e : Epoch} (running : s.run = .running)
    (ascending : s.slotKeys.Pairwise (· < ·)) (bounded : s.Bounds s.slotKeys)
    (above : ∀ n ∈ s.newest, n.epoch.key s.settings.rout < e.key s.settings.rout)
    (next : ∀ e' ∈ s.nextEpoch, e'.sec ≤ 4294967295 ∧ e'.k < s.settings.rout ∧
      e.key s.settings.rout < e'.key s.settings.rout) : (s.tick e).OrderlyBy := by
  have run : (s.tick e).run = .running := (congrArg State.run (s.tick_outside e) :).trans running
  have settings : (s.tick e).settings = s.settings := (congrArg State.settings (s.tick_outside e) :)
  have nextEpoch : (s.tick e).nextEpoch = s.nextEpoch := (congrArg State.nextEpoch (s.tick_outside e) :)
  rcases s.tick_run e with same | opened
  · refine State.OrderlyBy.of_same ⟨?_, ?_, fun h => absurd running h, ascending, bounded, ?_⟩ same
    · simp [running]
    · simp [running]
    · intro e' he'
      obtain ⟨sec, index, later⟩ := next e' he'
      exact ⟨sec, index, fun n hn => (above n hn).trans later⟩
  · refine ⟨?_, ?_, fun h => absurd run h, ?_, ?_, ?_⟩
    · simp [run]
    · simp [run]
    · rw [opened.keys]
      exact pairwise_append_singleton ascending (bounded.lt above)
    · rw [opened.keys]
      exact opened.bounds bounded above
    · obtain ⟨wait, newest⟩ := opened.newest
      intro e' he'
      rw [nextEpoch] at he'
      obtain ⟨sec, index, later⟩ := next e' he'
      rw [settings]
      refine ⟨sec, index, fun n hn => ?_⟩
      rw [newest] at hn
      cases hn
      exact later

/-- R134: the end of a drain, where nothing of the run is left. -/
theorem State.OrderlyBy.endDrain {s : State} (stopped : s.run = .stopped → s.slotKeys = [])
    (next : s.run ≠ .running → s.nextEpoch = none) (ascending : s.slotKeys.Pairwise (· < ·))
    (bounded : s.Bounds s.slotKeys) (ahead : s.NextAhead) : s.endDrain.OrderlyBy := by
  by_cases ends : s.run = .draining ∧ s.window = [] ∧ s.emission = none
  · obtain ⟨draining, window, emission⟩ := ends
    rw [State.endDrain_ends draining window emission]
    have empty : s.slotKeys = [] := State.slotKeys_eq_nil.2 ⟨window, emission⟩
    have none : s.nextEpoch = none := next (by simp [draining])
    exact ⟨fun _ => empty, nofun, fun _ => none, ascending, bounded, ahead⟩
  · rw [not_and, not_and_or] at ends
    by_cases draining : s.run = .draining
    · rw [State.endDrain_none (.inr (ends draining))]
      refine ⟨stopped, fun _ empty => ?_, next, ascending, bounded, ahead⟩
      obtain ⟨window, emission⟩ := State.slotKeys_eq_nil.1 empty
      exact (ends draining).elim (absurd window) (absurd emission)
    · rw [State.endDrain_none (.inl draining)]
      exact ⟨stopped, fun h => absurd h draining, next, ascending, bounded, ahead⟩

/-- R45, R48: the epoch after the latest one at a local time, newer than the run's newest if the latest is. -/
theorem latestEpoch_succ_ahead {rout : Nat} {t : LocalTime} (hr : 0 < rout) (ht : t.valid) :
    ∀ e' ∈ (latestEpoch rout t).succ rout, e'.sec ≤ 4294967295 ∧ e'.k < rout ∧
      (latestEpoch rout t).key rout < e'.key rout := by
  intro e' h
  obtain ⟨sec, index, key⟩ := firstEpochAfter_spec hr ht h
  exact ⟨sec, index, by omega⟩

/-- R48, R49: the tick of the latest epoch reached, and the next epoch past it. -/
theorem State.OrderlyBy.tickReached {u : State} (h : u.OrderlyBy) (hr : 0 < u.settings.rout) (ht : u.time.valid) :
    u.tickReached.OrderlyBy := by
  unfold State.tickReached
  split
  · exact h
  next e next =>
    dsimp only
    split_ifs with reached
    · obtain ⟨running, le⟩ := reached
      obtain ⟨-, -, above⟩ := h.ahead e next
      set last := latestEpoch u.settings.rout u.time
      have skipped := State.SameRun.skipEpochs (last.key u.settings.rout - e.key u.settings.rout)
        { u with nextEpoch := last.succ u.settings.rout }
      refine .tick (skipped.run.trans running) ?_ ?_ ?_ ?_
      · rw [skipped.keys]
        exact h.ascending
      · rw [skipped.keys]
        exact h.bounded.of_same skipped.newest skipped.settings
      · rw [skipped.newest, skipped.settings]
        exact fun n hn => (above n hn).trans_le le
      · rw [skipped.nextEpoch, skipped.settings]
        exact latestEpoch_succ_ahead hr ht
    · exact h

/-- R48, R49, R143: a step of local time. -/
theorem State.OrderlyBy.stepTime {s : State} {t : LocalTime} (h : s.OrderlyBy) (hr : 0 < s.settings.rout)
    (ht : t.valid) : (s.stepTime t).OrderlyBy := by
  unfold State.stepTime
  split_ifs
  · have same : s.SameRun (State.beginEmission { s with time := t }.expireReached) := by
      refine State.SameRun.trans ?_ (.beginEmission _)
      refine .trans (t := { s with time := t }) ⟨rfl, rfl, rfl, rfl, rfl, rfl⟩ ?_
      exact .mapWindow (Slot.expire_epoch _)
    refine (h.of_same same).tickReached ?_ ?_
    · rwa [same.settings]
    · simpa using ht
  · exact ⟨h.stopped, h.draining, h.next, h.ascending, h.bounded, h.ahead⟩

/-- R47: the tick of the next epoch. -/
theorem State.OrderlyBy.ticked {s : State} {e : Epoch} (h : s.OrderlyBy) (next : s.nextEpoch = some e)
    (running : s.run = .running) :
    (State.tick e { s with nextEpoch := e.succ s.settings.rout }).OrderlyBy := by
  obtain ⟨sec, index, above⟩ := h.ahead e next
  refine .tick running h.ascending h.bounded above fun e' he' => ?_
  obtain ⟨sec', index', key⟩ := Epoch.succ_spec index sec he'
  exact ⟨sec', index', by show e.key s.settings.rout < e'.key s.settings.rout; omega⟩

/-- R145: the emission that completes is the oldest slot of the run. -/
theorem State.slotKeys_emitting {s : State} {sl : Slot} (h : s.emission = some sl) :
    s.slotKeys = sl.epoch.key s.settings.rout :: s.window.map (fun sl => sl.epoch.key s.settings.rout) := by
  simp [State.slotKeys, State.slots, h]

theorem State.slotKeys_idle {s : State} (h : s.emission = none) :
    s.slotKeys = s.window.map (fun sl => sl.epoch.key s.settings.rout) := by
  simp [State.slotKeys, State.slots, h]

/-- The state as an emission completes, before the tests that follow. -/
def State.placed (sl : Slot) (s : State) : State :=
  { s with emission := none, egress := s.egress ++ [buildSet s.settings.rout sl], counters := s.counters.bumpSet sl.cause }

theorem State.OrderlyBy.emissionCompleted {s : State} (h : s.OrderlyBy) {sl : Slot} (emitting : s.emission = some sl) :
    ((s.placed sl).beginEmission.beginTransmission.endDrain).OrderlyBy := by
  have same := (State.SameRun.beginEmission (s.placed sl)).trans (.beginTransmission _)
  have keys : (s.placed sl).slotKeys = s.slotKeys.tail := by
    rw [State.slotKeys_emitting emitting]
    exact State.slotKeys_idle rfl
  refine .endDrain (fun stopped => ?_) (fun notRunning => ?_) ?_ ?_ ?_
  · rw [same.keys, keys, h.stopped (same.run ▸ stopped)]
    rfl
  · exact same.nextEpoch.trans (h.next (same.run ▸ notRunning))
  · rw [same.keys, keys]
    exact h.ascending.tail
  · rw [same.keys, keys]
    have bounded : (s.placed sl).Bounds s.slotKeys.tail := fun k mem => h.bounded k (List.mem_of_mem_tail mem)
    exact bounded.of_same same.newest same.settings
  · exact State.NextAhead.of_same (s := s.placed sl) h.ahead same.newest same.settings same.nextEpoch

/-! ### Commands and rows -/

theorem State.OrderlyBy.drain {s : State} (h : s.OrderlyBy) : s.drain.OrderlyBy := by
  unfold State.drain
  split_ifs
  · exact .endDrain nofun (fun _ => rfl) h.ascending h.bounded nofun
  · exact h

theorem State.OrderlyBy.flush {s : State} (h : s.OrderlyBy) : s.flush.OrderlyBy := by
  unfold State.flush
  split_ifs
  · exact h
  · set v : State := { s with run := .draining, nextEpoch := none } with hv
    have same : v.SameRun (State.beginEmission { v with window := v.window.map (Slot.release .flush) }) := by
      refine State.SameRun.trans ?_ (.beginEmission _)
      exact .mapWindow (Slot.release_epoch _)
    refine .endDrain (fun stopped => ?_) (fun _ => same.nextEpoch) ?_ ?_ ?_
    · exact absurd (same.run.symm.trans stopped) (by simp [hv])
    · exact same.keys.symm ▸ h.ascending
    · rw [same.keys]
      exact State.Bounds.of_same (s := v) h.bounded same.newest same.settings
    · refine State.NextAhead.of_same (s := v) nofun same.newest same.settings same.nextEpoch

/-- R131: with nothing of an earlier run left, a run starts. -/
theorem State.OrderlyBy.started {s : State} (h : s.OrderlyBy) (stopped : s.run = .stopped) (hr : 0 < s.settings.rout)
    (ht : s.time.valid) :
    State.OrderlyBy { s with run := .running, nextEpoch := firstEpochAfter s.settings.rout s.time, newest := none } := by
  have empty : s.slotKeys = [] := h.stopped stopped
  refine ⟨nofun, nofun, fun h => absurd rfl h, h.ascending, fun k mem => ?_, fun e he => ?_⟩
  · exact absurd (empty ▸ mem : k ∈ []) List.not_mem_nil
  · obtain ⟨sec, index, -⟩ := firstEpochAfter_spec hr ht he
    exact ⟨sec, index, nofun⟩

/-- R138: while STOPPED no slot has a key that a change of the output rate could touch. -/
theorem State.OrderlyBy.configured {s : State} (h : s.OrderlyBy) (stopped : s.run = .stopped) (g : AlignSettings) :
    State.OrderlyBy { s with settings := g } := by
  obtain ⟨window, emission⟩ := State.slotKeys_eq_nil.1 (h.stopped stopped)
  have empty : State.slotKeys { s with settings := g } = [] := State.slotKeys_eq_nil.2 ⟨window, emission⟩
  have none : s.nextEpoch = none := h.next (by simp [stopped])
  refine ⟨fun _ => empty, fun draining => ?_, fun _ => none, ?_, ?_, ?_⟩
  · exact absurd (stopped.symm.trans draining) (by decide)
  · rw [empty]; exact .nil
  · rw [empty]; exact nofun
  · intro e he
    exact absurd (none.symm.trans he) nofun

/-- R135. -/
theorem State.OrderlyBy.of_empty {s : State} (run : s.run = .stopped) (window : s.window = []) (emission : s.emission = none)
    (next : s.nextEpoch = none) : s.OrderlyBy := by
  have empty : s.slotKeys = [] := State.slotKeys_eq_nil.2 ⟨window, emission⟩
  refine ⟨fun _ => empty, by simp [run], fun _ => next, ?_, ?_, ?_⟩
  · rw [empty]; exact .nil
  · rw [empty]; exact nofun
  · unfold State.NextAhead
    rw [next]
    exact nofun

theorem State.OrderlyBy.answer {s : State} (h : s.OrderlyBy) (m : Message) (status : Status) (ret : ReturnFields) :
    (s.answer m status ret).OrderlyBy :=
  h.of_same ⟨rfl, rfl, rfl, rfl, rfl, rfl⟩

theorem Message.Effect.orderly {m : Message} {s u : State} (h : m.Effect s u) (hs : s.OrderlyBy) (hr : 0 < s.settings.rout)
    (ht : s.time.valid) : u.OrderlyBy := by
  cases h
  case configured stopped _ _ _ => exact (hs.configured stopped _).answer m _ _
  case started stopped => exact (hs.started stopped hr ht).answer m _ _
  case drained => exact hs.drain.answer m _ _
  case flushed => exact hs.flush.answer m _ _
  case engineReset => exact (State.OrderlyBy.of_empty rfl rfl rfl rfl).answer m _ _
  case suspended i _ => exact (hs.of_same (.moveRecord i _ s)).answer m _ _
  case restarted i _ => exact (hs.of_same (.moveRecord i _ s)).answer m _ _
  all_goals exact hs.of_same ⟨rfl, rfl, rfl, rfl, rfl, rfl⟩

theorem State.Moves.orderly {s t : State} {c : Instr} (h : s.Moves c t) (inRange : s.InRange) (hs : s.OrderlyBy) :
    t.OrderlyBy := by
  obtain ⟨time, tb, settings⟩ := inRange
  have hr : 0 < s.settings.rout := outputRates_pos settings.1
  cases h
  case powerOn => exact .of_empty rfl rfl rfl rfl
  case edge => exact hs.of_same (.setTimebase _ s)
  case edgeSteps =>
    refine (hs.of_same (.setTimebase _ s)).stepTime ?_ (Timebase.stepTarget_valid tb.2.2.1 time)
    rw [State.setTimebase_settings]
    exact hr
  case timedOut => exact hs.of_same (.setTimebase _ s)
  case edgeMissed => exact hs.of_same (.setTimebase _ s)
  case ticked next running _ => exact hs.ticked next running
  case expired e =>
    refine hs.of_same (State.SameRun.trans ?_ (.beginEmission _))
    refine .mapWindow fun sl => ?_
    unfold Slot.expireIf
    split_ifs <;> simp
  case frameJoined =>
    refine hs.of_same (State.SameRun.trans ?_ (.takeFrame _))
    exact ⟨rfl, rfl, rfl, rfl, rfl, rfl⟩
  case frameHandled =>
    exact hs.of_same (((State.SameRun.takeFrame s).trans (.endHandling _)).trans (.takeFrame _))
  case inserted =>
    refine hs.of_same (State.SameRun.trans ?_ (.takeFrame _))
    exact ⟨rfl, rfl, rfl, rfl, rfl, rfl⟩
  case removed => exact hs.of_same (.removed ..)
  case emissionBegan => exact hs.of_same (.beginEmission s)
  case emissionCompleted sl emitting => exact hs.emissionCompleted emitting
  case transmissionBegan => exact hs.of_same (.beginTransmission s)
  case transmissionCompleted =>
    have orderly : State.OrderlyBy { s with egress := s.egress.drop 1, transmitting := false } :=
      ⟨hs.stopped, hs.draining, hs.next, hs.ascending, hs.bounded, hs.ahead⟩
    exact orderly.of_same ((State.SameRun.beginEmission _).trans (.beginTransmission _))
  case readyAsserted =>
    refine hs.of_same (State.SameRun.trans ?_ (.beginTransmission _))
    exact ⟨rfl, rfl, rfl, rfl, rfl, rfl⟩
  case starts effect _ =>
    have orderly := effect.orderly (hs.of_same ⟨rfl, rfl, rfl, rfl, rfl, rfl⟩) hr time
    exact orderly.of_same ⟨rfl, rfl, rfl, rfl, rfl, rfl⟩
  all_goals exact hs.of_same ⟨rfl, rfl, rfl, rfl, rfl, rfl⟩

theorem State.running_iff {s : State} : s.Running ↔ s.InRange ∧ s.OrderlyBy := and_congr_right fun _ => State.orderly_iff

theorem State.Moves.running {s t : State} {c : Instr} (h : s.Moves c t) (hs : s.Running) : t.Running := by
  obtain ⟨inRange, orderly⟩ := State.running_iff.1 hs
  exact State.running_iff.2 ⟨h.inRange inRange, h.orderly inRange orderly⟩

theorem State.Running.ownStep {s : State} (h : s.Running) : s.ownStep.Running := by
  refine ⟨h.1.ownStep, ?_⟩
  rcases s.ownStep_cases with same | ⟨pending, same⟩ <;> rw [same] <;> exact h.2

theorem step_running {s t : State} (hs : s.Running) (h : step s = .next t) : t.Running := by
  rcases step_cases h with rfl | ⟨c, rest, -, row⟩
  · exact hs.ownStep
  · exact (exec_moves row).running (s := { s with pending := rest }) hs

end Sys2Proof.Machine

/-! The order of the sets in the egress buffer, below the slots of the run. -/

namespace Sys2Proof.Machine

/-! ### The keys of the sets of the run, and of its slots behind them -/

/-- R146: a set's order key, at the output rate it was built with. -/
def AlignedSet.key (a : AlignedSet) : Nat := a.header.epoch.key a.header.rout

/-- R146, R150: the keys past the `old` sets of earlier runs. -/
def State.setKeys (old : Nat) (s : State) : List Nat := (s.egress.drop old).map AlignedSet.key ++ s.slotKeys

theorem State.setsInOrder_iff {old : Nat} {s : State} : s.SetsInOrder old ↔
    old ≤ s.egress.length ∧ (s.setKeys old).Pairwise (· < ·) ∧ (s.run ≠ .stopped → s.Bounds (s.setKeys old)) := Iff.rfl

theorem State.SetsInOrder.of_same {old : Nat} {s t : State} (h : s.SetsInOrder old) (keys : t.slotKeys = s.slotKeys)
    (egress : t.egress = s.egress) (newest : t.newest = s.newest) (settings : t.settings = s.settings)
    (run : t.run ≠ .stopped → s.run ≠ .stopped) : t.SetsInOrder old := by
  obtain ⟨old_le, ascending, bounded⟩ := State.setsInOrder_iff.1 h
  rw [State.setsInOrder_iff, State.setKeys, egress, keys]
  exact ⟨old_le, ascending, fun h => (bounded (run h)).of_same newest settings⟩

/-- With every set of an earlier run and no slot, nothing is out of order. -/
theorem State.SetsInOrder.of_none {s : State} (keys : s.slotKeys = []) : s.SetsInOrder s.egress.length := by
  rw [State.setsInOrder_iff, State.setKeys, keys, List.drop_length]
  exact ⟨le_rfl, .nil, fun _ => nofun⟩

/-- While STOPPED the order looks at the buffer alone. -/
theorem State.SetsInOrder.of_stopped {old : Nat} {s t : State} (h : s.SetsInOrder old) (before : s.slotKeys = [])
    (after : t.slotKeys = []) (egress : t.egress = s.egress) (stopped : t.run = .stopped) : t.SetsInOrder old := by
  obtain ⟨old_le, ascending, -⟩ := State.setsInOrder_iff.1 h
  rw [State.setKeys, before] at ascending
  rw [State.setsInOrder_iff, State.setKeys, after, egress]
  exact ⟨old_le, ascending, fun running => absurd stopped running⟩

/-- A buffer of one set at most, and no slot. -/
theorem State.SetsInOrder.of_few {old : Nat} {s : State} (keys : s.slotKeys = []) (few : s.egress.length ≤ 1)
    (old_le : old ≤ s.egress.length) (stopped : s.run = .stopped) : s.SetsInOrder old := by
  refine State.setsInOrder_iff.2
    ⟨old_le, List.pairwise_iff_getElem.2 fun i j _ hj lt => ?_, fun running => absurd stopped running⟩
  simp only [State.setKeys, keys, List.append_nil, List.length_map, List.length_drop] at hj
  omega

/-! ### What a step makes of the order -/

/-- R146, R150: the order of the sets after a step from `s` to `t`: a run that starts has no set in the buffer yet, and
past a step within a run the sets that left the buffer were its oldest. -/
def State.SetsMove (old : Nat) (s t : State) : Prop :=
  (s.run = .stopped → t.run ≠ .stopped → t.SetsInOrder t.egress.length) ∧
    (s.run ≠ .stopped ∨ t.run = .stopped → t.SetsInOrder (old - (s.egress.length - t.egress.length)))

/-- A step that starts no run. -/
theorem State.SetsMove.of_run {old : Nat} {s t : State} (run : t.run ≠ .stopped → s.run ≠ .stopped)
    (h : t.SetsInOrder (old - (s.egress.length - t.egress.length))) : s.SetsMove old t :=
  ⟨fun stopped running => absurd stopped (run running), fun _ => h⟩

/-- A step that takes no set from the buffer. -/
theorem State.SetsMove.of_kept {old : Nat} {s t : State} (run : t.run ≠ .stopped → s.run ≠ .stopped)
    (egress : s.egress.length ≤ t.egress.length) (h : t.SetsInOrder old) : s.SetsMove old t :=
  .of_run run (by rwa [Nat.sub_eq_zero_of_le egress, Nat.sub_zero])

theorem State.SetsMove.of_same {old : Nat} {s t : State} (h : s.SetsInOrder old) (same : s.SameRun t) :
    s.SetsMove old t := by
  have run : t.run ≠ .stopped → s.run ≠ .stopped := fun h => same.run ▸ h
  exact .of_kept run (same.egress ▸ le_rfl) (h.of_same same.keys same.egress same.newest same.settings run)

/-- R146: past the order before it, what leads to a state with the same run does the same to the order. -/
theorem State.SetsMove.trans_same {old : Nat} {s t u : State} (h : s.SetsMove old t) (same : t.SameRun u) :
    s.SetsMove old u := by
  obtain ⟨starts, goes⟩ := h
  have kept {n : Nat} (h : t.SetsInOrder n) : u.SetsInOrder n :=
    h.of_same same.keys same.egress same.newest same.settings fun h => same.run ▸ h
  unfold State.SetsMove
  rw [same.egress, same.run]
  exact ⟨fun a b => kept (starts a b), fun a => kept (goes a)⟩

/-- R47, R108: the slot of a tick is newer than every set and slot of the run. -/
theorem State.SetsInOrder.tick {old : Nat} {s : State} {e : Epoch} (h : s.SetsInOrder old) (running : s.run = .running)
    (above : ∀ n ∈ s.newest, n.epoch.key s.settings.rout < e.key s.settings.rout) : (s.tick e).SetsInOrder old := by
  rcases s.tick_run e with same | opened
  · exact h.of_same same.keys same.egress same.newest same.settings fun h => same.run ▸ h
  · obtain ⟨old_le, ascending, bounded⟩ := State.setsInOrder_iff.1 h
    have egress : (s.tick e).egress = s.egress := (congrArg State.egress opened.outside :)
    have keys : (s.tick e).setKeys old = s.setKeys old ++ [e.key s.settings.rout] := by
      rw [State.setKeys, egress, opened.keys, ← List.append_assoc]
      rfl
    have below := bounded (by simp [running])
    rw [State.setsInOrder_iff, keys]
    exact ⟨egress ▸ old_le, pairwise_append_singleton ascending (below.lt above), fun _ => opened.bounds below above⟩

theorem State.SetsInOrder.tickReached {old : Nat} {s : State} (h : s.SetsInOrder old) (ahead : s.NextAhead) :
    s.tickReached.SetsInOrder old := by
  unfold State.tickReached
  split
  · exact h
  next e next =>
    dsimp only
    split_ifs with reached
    · obtain ⟨running, le⟩ := reached
      obtain ⟨-, -, above⟩ := ahead e next
      set last := latestEpoch s.settings.rout s.time
      have skipped := State.SameRun.skipEpochs (last.key s.settings.rout - e.key s.settings.rout)
        { s with nextEpoch := last.succ s.settings.rout }
      refine .tick (h.of_same skipped.keys skipped.egress skipped.newest skipped.settings fun h => skipped.run ▸ h)
        (skipped.run.trans running) ?_
      rw [skipped.newest, skipped.settings]
      exact fun n hn => (above n hn).trans_le le
    · exact h

theorem State.stepTime_run (t : LocalTime) (s : State) : (s.stepTime t).run = s.run :=
  (congrArg State.run (s.stepTime_outside t) :)

theorem State.stepTime_egress (t : LocalTime) (s : State) : (s.stepTime t).egress = s.egress :=
  (congrArg State.egress (s.stepTime_outside t) :)

theorem State.SetsInOrder.stepTime {old : Nat} {s : State} (h : s.SetsInOrder old) (orderly : s.OrderlyBy)
    (t : LocalTime) : (s.stepTime t).SetsInOrder old := by
  unfold State.stepTime
  split_ifs
  · have same : s.SameRun (State.beginEmission { s with time := t }.expireReached) := by
      refine State.SameRun.trans ?_ (.beginEmission _)
      refine .trans (t := { s with time := t }) ⟨rfl, rfl, rfl, rfl, rfl, rfl⟩ ?_
      exact .mapWindow (Slot.expire_epoch _)
    exact State.SetsInOrder.tickReached
      (h.of_same same.keys same.egress same.newest same.settings fun h => same.run ▸ h) (orderly.of_same same).ahead
  · exact h

/-- R134: the end of a drain moves no set. -/
theorem State.SetsInOrder.endDrain {old : Nat} {s : State} (h : s.SetsInOrder old) : s.endDrain.SetsInOrder old := by
  unfold State.endDrain
  split_ifs
  · exact h.of_same rfl rfl rfl rfl fun running => absurd rfl running
  · exact h

/-- R145: the slot whose emission completes becomes the newest set, of the same key. -/
theorem State.placed_setKeys {old : Nat} {s : State} {sl : Slot} (emitting : s.emission = some sl)
    (old_le : old ≤ s.egress.length) : (s.placed sl).setKeys old = s.setKeys old := by
  have keys : (s.placed sl).slotKeys = s.window.map (fun sl => sl.epoch.key s.settings.rout) := State.slotKeys_idle rfl
  rw [State.setKeys, keys, State.setKeys, State.slotKeys_emitting emitting, State.placed, List.drop_append_of_le_length old_le]
  simp [AlignedSet.key, buildSet]

theorem State.SetsMove.emissionCompleted {old : Nat} {s : State} {sl : Slot} (h : s.SetsInOrder old)
    (orderly : s.OrderlyBy) (emitting : s.emission = some sl) :
    s.SetsMove old ((s.placed sl).beginEmission.beginTransmission.endDrain) := by
  obtain ⟨old_le, ascending, bounded⟩ := State.setsInOrder_iff.1 h
  have same := (State.SameRun.beginEmission (s.placed sl)).trans (.beginTransmission _)
  have running : s.run ≠ .stopped := fun stopped => by
    have := orderly.stopped stopped
    rw [State.slotKeys_emitting emitting] at this
    cases this
  have longer : (s.placed sl).egress.length = s.egress.length + 1 := List.length_append
  have placed : (s.placed sl).SetsInOrder old := by
    rw [State.setsInOrder_iff, State.placed_setKeys emitting old_le, longer]
    exact ⟨old_le.trans (Nat.le_succ _), ascending, fun _ => bounded running⟩
  refine .of_kept (fun _ => running) ?_
    (placed.of_same same.keys same.egress same.newest same.settings fun h => same.run ▸ h).endDrain
  rw [State.endDrain_egress, same.egress, longer]
  exact Nat.le_succ _

/-- R152: the set that has been sent was the oldest of the buffer. -/
theorem State.SetsMove.sent {old : Nat} {s : State} (h : s.SetsInOrder old) :
    s.SetsMove old { s with egress := s.egress.drop 1, transmitting := false } := by
  obtain ⟨old_le, ascending, bounded⟩ := State.setsInOrder_iff.1 h
  have fewer : (s.egress.drop 1).length = s.egress.length - 1 := List.length_drop
  refine .of_run id ?_
  show State.SetsInOrder (old - (s.egress.length - (s.egress.drop 1).length)) _
  set left := old - (s.egress.length - (s.egress.drop 1).length) with left_eq
  have rest : ((s.egress.drop 1).drop left).Sublist (s.egress.drop old) := by
    rw [List.drop_drop]
    exact (List.drop_sublist_drop_left _ (by omega))
  have sub : State.setKeys left { s with egress := s.egress.drop 1, transmitting := false } |>.Sublist (s.setKeys old) :=
    (rest.map _).append_right _
  refine State.setsInOrder_iff.2 ⟨?_, ascending.sublist sub, fun running key mem => bounded running key (sub.subset mem)⟩
  show left ≤ (s.egress.drop 1).length
  omega

/-! ### Commands and rows -/

theorem State.SetsMove.drain {old : Nat} {s : State} (h : s.SetsInOrder old) : s.SetsMove old s.drain := by
  unfold State.drain
  split_ifs with running
  · have kept : State.SetsInOrder old { s with run := .draining, nextEpoch := none } :=
      h.of_same rfl rfl rfl rfl fun _ => by simp [running]
    refine .of_kept (fun _ => by simp [running]) ?_ kept.endDrain
    rw [State.endDrain_egress]
  · exact .of_same h (.refl s)

theorem State.SetsMove.flush {old : Nat} {s : State} (h : s.SetsInOrder old) : s.SetsMove old s.flush := by
  unfold State.flush
  split_ifs with stopped
  · exact .of_same h (.refl s)
  · set v : State := { s with run := .draining, nextEpoch := none }
    have kept : v.SetsInOrder old := h.of_same rfl rfl rfl rfl fun _ => stopped
    have same : v.SameRun (State.beginEmission { v with window := v.window.map (Slot.release .flush) }) := by
      refine State.SameRun.trans ?_ (.beginEmission _)
      exact .mapWindow (Slot.release_epoch _)
    refine .of_kept (fun _ => stopped) ?_
      (kept.of_same same.keys same.egress same.newest same.settings fun h => same.run ▸ h).endDrain
    rw [State.endDrain_egress, same.egress]

/-- R151: RESET ENGINE leaves one set at most, the one in transmission. -/
theorem State.SetsMove.engineReset {old : Nat} {s : State} (h : s.SetsInOrder old) : s.SetsMove old s.resetEngine := by
  have stopped : s.resetEngine.run = .stopped := rfl
  have egress : s.resetEngine.egress = if s.transmitting then s.egress.take 1 else [] :=
    (congrArg State.egress s.resetEngine_outside :)
  have few : s.resetEngine.egress.length ≤ 1 := by
    rw [egress]
    split_ifs <;> simp
  have old_le : old ≤ s.egress.length := (State.setsInOrder_iff.1 h).1
  exact .of_run (fun running => absurd stopped running) (.of_few (State.slotKeys_eq_nil.2 ⟨rfl, rfl⟩) few (by omega) stopped)

theorem Message.Effect.setsMove {old : Nat} {m : Message} {s u : State} (h : m.Effect s u) (orderly : s.OrderlyBy)
    (hs : s.SetsInOrder old) : s.SetsMove old u := by
  cases h
  case configured stopped _ _ _ =>
    obtain ⟨window, emission⟩ := State.slotKeys_eq_nil.1 (orderly.stopped stopped)
    exact .of_kept id le_rfl
      (hs.of_stopped (orderly.stopped stopped) (State.slotKeys_eq_nil.2 ⟨window, emission⟩) rfl stopped)
  case started stopped =>
    have empty : s.slotKeys = [] := orderly.stopped stopped
    exact ⟨fun _ _ => .of_none empty, fun h => absurd h (by simp [stopped])⟩
  case drained => exact (State.SetsMove.drain hs).trans_same ⟨rfl, rfl, rfl, rfl, rfl, rfl⟩
  case flushed => exact (State.SetsMove.flush hs).trans_same ⟨rfl, rfl, rfl, rfl, rfl, rfl⟩
  case engineReset => exact (State.SetsMove.engineReset hs).trans_same ⟨rfl, rfl, rfl, rfl, rfl, rfl⟩
  case suspended i _ => exact .of_same hs ((State.SameRun.moveRecord i _ s).trans ⟨rfl, rfl, rfl, rfl, rfl, rfl⟩)
  case restarted i _ => exact .of_same hs ((State.SameRun.moveRecord i _ s).trans ⟨rfl, rfl, rfl, rfl, rfl, rfl⟩)
  all_goals exact .of_same hs ⟨rfl, rfl, rfl, rfl, rfl, rfl⟩

theorem State.Moves.setsMove {old : Nat} {s t : State} {c : Instr} (h : s.Moves c t) (orderly : s.OrderlyBy)
    (hs : s.SetsInOrder old) : s.SetsMove old t := by
  cases h
  case powerOn => exact .of_run (fun running => absurd rfl running) (.of_few rfl (Nat.zero_le _) (by
      have old_le := (State.setsInOrder_iff.1 hs).1
      show old - (s.egress.length - 0) ≤ 0
      omega) rfl)
  case edge => exact .of_same hs (.setTimebase _ s)
  case edgeSteps =>
    have same := State.SameRun.setTimebase { (s.tb.applyStaged.judge s.time).1.capture s.time with armed := none } s
    refine .of_kept ?_ ?_ ((hs.of_same same.keys same.egress same.newest same.settings fun h => same.run ▸ h).stepTime
      (orderly.of_same same) _)
    · rw [State.stepTime_run, same.run]
      exact id
    · rw [State.stepTime_egress, same.egress]
  case timedOut => exact .of_same hs (.setTimebase _ s)
  case edgeMissed => exact .of_same hs (.setTimebase _ s)
  case ticked e next running _ =>
    obtain ⟨-, -, above⟩ := orderly.ahead e next
    have outside := State.tick_outside e { s with nextEpoch := e.succ s.settings.rout }
    refine .of_kept (fun _ => by simp [running]) (congrArg (List.length ∘ State.egress) outside :).ge ?_
    exact .tick (hs.of_same rfl rfl rfl rfl id) running above
  case expired e =>
    refine .of_same hs (State.SameRun.trans ?_ (.beginEmission _))
    refine .mapWindow fun sl => ?_
    unfold Slot.expireIf
    split_ifs <;> simp
  case frameJoined =>
    refine .of_same hs (State.SameRun.trans ?_ (.takeFrame _))
    exact ⟨rfl, rfl, rfl, rfl, rfl, rfl⟩
  case frameHandled => exact .of_same hs (((State.SameRun.takeFrame s).trans (.endHandling _)).trans (.takeFrame _))
  case inserted =>
    refine .of_same hs (State.SameRun.trans ?_ (.takeFrame _))
    exact ⟨rfl, rfl, rfl, rfl, rfl, rfl⟩
  case removed i _ _ _ => exact .of_same hs (.removed ..)
  case emissionBegan => exact .of_same hs (.beginEmission s)
  case emissionCompleted sl emitting => exact .emissionCompleted hs orderly emitting
  case transmissionBegan => exact .of_same hs (.beginTransmission s)
  case transmissionCompleted =>
    exact (State.SetsMove.sent hs).trans_same ((State.SameRun.beginEmission _).trans (.beginTransmission _))
  case readyAsserted =>
    refine .of_same hs (State.SameRun.trans ?_ (.beginTransmission _))
    exact ⟨rfl, rfl, rfl, rfl, rfl, rfl⟩
  case starts effect _ =>
    exact (effect.setsMove (orderly.of_same ⟨rfl, rfl, rfl, rfl, rfl, rfl⟩) hs).trans_same ⟨rfl, rfl, rfl, rfl, rfl, rfl⟩
  all_goals exact .of_same hs ⟨rfl, rfl, rfl, rfl, rfl, rfl⟩

/-- Settles O55: every row keeps the run invariant, and no row puts a set or a slot anywhere but at the newest end, with a
key above the run's newest. -/
theorem runOrderKept : Obligations.RunOrderKept := by
  unfold Obligations.RunOrderKept
  refine ⟨fun s t hs h => step_running hs h, fun s t old running hs h => ?_⟩
  rcases step_cases h with rfl | ⟨c, rest, -, row⟩
  · refine State.SetsMove.of_same hs ?_
    rcases s.ownStep_cases with same | ⟨pending, same⟩ <;> rw [same]
    · exact .refl s
    · exact ⟨rfl, rfl, rfl, rfl, rfl, rfl⟩
  · have orderly := (State.running_iff.1 running).2
    exact (exec_moves row).setsMove (orderly.of_same ⟨rfl, rfl, rfl, rfl, rfl, rfl⟩) hs

end Sys2Proof.Machine

/-! What a frame and a tick do to one record, the filter and the snap-or-rotate rule; with the proofs of the statements on
them. -/

namespace Sys2Proof.Machine

/-! ### What a frame teaches its record (R63, R88 to R101) -/

theorem causes_or_none (c : CauseSet) : c ||| 0 = c := BitVec.or_zero

/-- R90: the history with a latency at its newest end, the oldest of 8 gone. -/
def Record.keptHistory (latency : Nat) (r : Record) : List Nat :=
  (if r.history.length < 8 then r.history else r.history.drop 1) ++ [latency]

theorem Record.keptHistory_eq {r : Record} (h : r.history.length ≤ 8) (latency : Nat) :
    r.keptHistory latency = (r.history ++ [latency]).drop (r.history.length + 1 - 8) := by
  unfold Record.keptHistory
  split_ifs with room
  · have none_leaves : r.history.length + 1 - 8 = 0 := Nat.sub_eq_zero_of_le room
    rw [none_leaves, List.drop_zero]
  · have full : r.history.length = 8 := le_antisymm h (Nat.not_lt.1 room)
    rw [full, List.drop_append_of_le_length (by omega)]

/-- R90, R91. -/
theorem Record.learnLatency_eq (latency : Nat) (r : Record) : r.learnLatency latency = { r with
    history := r.keptHistory latency, filtered := filteredLatency r.opts.filterN (r.keptHistory latency) } := rfl

/-- R94: a clock state moves when two observations in a row disagree with it. -/
theorem Record.observe_eq (flags : BitVec 16) (quality : Nat) (r : Record) : r.observe flags quality = { r with
    clock := if r.observation flags quality ≠ r.clock ∧ r.disagree ≠ 0 then r.observation flags quality else r.clock
    disagree := if r.observation flags quality ≠ r.clock ∧ r.disagree = 0 then 1 else 0
    causes := r.causes |||
      (if r.observation flags quality ≠ r.clock ∧ r.disagree ≠ 0 then StreamCause.clock else 0) } := by
  unfold Record.observe
  by_cases agrees : r.observation flags quality = r.clock
  · simp [agrees]
  · by_cases first : r.disagree = 0 <;> simp [agrees, first, Record.raise]

/-- R101: a frame heard ends the silence, and moves a SILENT or RECOVERING record on. -/
theorem Record.hear_eq (r : Record) : r.hear = { r with
    silence := 0
    state := if r.state = .silent then .recovering else if r.state = .recovering then .active else r.state
    recovery := if r.state = .silent then 1 else if r.state = .recovering then 0 else r.recovery
    causes := r.causes ||| (if r.state = .recovering then StreamCause.recovered else 0) } := by
  unfold Record.hear
  split
  next silent => simp [silent]
  next recovering => simp [recovering, Record.raise]
  next _ silent recovering =>
    rw [if_neg silent, if_neg recovering, if_neg silent, if_neg recovering, if_neg recovering]
    exact congrArg (fun causes => { r with silence := 0, causes }) (causes_or_none _).symm

/-- R96. -/
theorem Record.watch_eq (flags : BitVec 16) (r : Record) : r.watch flags = { r with
    causes := r.causes ||| (if flags &&& r.opts.watchMask ≠ 0 then StreamCause.watch else 0) } := by
  unfold Record.watch
  by_cases unset : flags &&& r.opts.watchMask = 0
  · rw [if_pos unset, if_neg (not_not.2 unset)]
    exact congrArg (fun causes => { r with causes }) (causes_or_none _).symm
  · rw [if_neg unset, if_pos unset]
    rfl

/-- R63: a LATE or PLACED frame, for its record. -/
theorem Record.teach_eq (r : Record) (al : Aligned) (late : Bool) :
    r.teach al late = { r with
      state :=
        if r.state = .pending then .active else if r.state = .silent then .recovering
        else if r.state = .recovering then .active else r.state
      counters := r.counters.bump (if late then .late else .placed)
      history := r.keptHistory al.latency
      filtered := filteredLatency r.opts.filterN (r.keptHistory al.latency)
      clock := if r.observation al.flags al.quality ≠ r.clock ∧ r.disagree ≠ 0 then r.observation al.flags al.quality
        else r.clock
      disagree := if r.observation al.flags al.quality ≠ r.clock ∧ r.disagree = 0 then 1 else 0
      silence := 0
      recovery := if r.state = .silent then 1 else if r.state = .recovering then 0 else r.recovery
      causes := r.causes
        ||| (if r.observation al.flags al.quality ≠ r.clock ∧ r.disagree ≠ 0 then StreamCause.clock else 0)
        ||| (if r.state = .recovering then StreamCause.recovered else 0)
        ||| (if al.flags &&& r.opts.watchMask ≠ 0 then StreamCause.watch else 0)
        ||| (if late then StreamCause.late else 0) } := by
  have promoted : r.promote = { r with state := if r.state = .pending then .active else r.state } := by
    unfold Record.promote
    split_ifs <;> rfl
  have seen (r' : Record) (same : r'.opts = r.opts) :
      r'.observation al.flags al.quality = r.observation al.flags al.quality := by
    rw [Record.observation, same, ← Record.observation]
  unfold Record.teach Record.learn
  rw [Record.learnLatency_eq, Record.observe_eq, seen _ (by rw [promoted]; rfl), promoted, Record.hear_eq, Record.watch_eq]
  generalize r.observation al.flags al.quality = observed
  cases late
  all_goals
    by_cases pending : r.state = .pending
    · simp only [pending, Record.count, Record.raise, Record.keptHistory, causes_or_none, reduceCtorEq, if_true,
        if_false, Bool.false_eq_true]
    · simp only [if_neg pending, Record.count, Record.raise, Record.keptHistory, causes_or_none, if_true, if_false,
        Bool.false_eq_true]

/-- Settles O25. -/
theorem whatAFrameTeaches : Obligations.WhatAFrameTeaches := by
  unfold Obligations.WhatAFrameTeaches
  intro r al late h
  refine ⟨r.observation al.flags al.quality, _, ?_, Record.keptHistory_eq h al.latency, Record.teach_eq r al late⟩
  unfold Record.observation
  split_ifs with unlocked <;> simp [unlocked]

/-! ### The filter (R91) -/

/-- A rounded-down mean lies between the least and the greatest of its values. -/
theorem mean_between {l : List Nat} (hl : l ≠ []) :
    (∃ lo ∈ l, lo ≤ l.sum / l.length) ∧ (∃ hi ∈ l, l.sum / l.length ≤ hi) := by
  have pos : 0 < l.length := List.length_pos_iff.2 hl
  constructor
  · by_contra none_below
    push Not at none_below
    have above := List.card_nsmul_le_sum l (l.sum / l.length + 1) none_below
    have := Nat.lt_mul_div_succ l.sum pos
    rw [smul_eq_mul] at above
    omega
  · by_contra none_above
    push Not at none_above
    obtain ⟨x, hx⟩ := List.exists_mem_of_ne_nil l hl
    have below := List.sum_le_card_nsmul l (l.sum / l.length - 1) fun y hy => Nat.le_sub_one_of_lt (none_above y hy)
    have mean := Nat.mul_div_le l.sum l.length
    have positive : 0 < l.sum / l.length := Nat.zero_lt_of_lt (none_above x hx)
    rw [smul_eq_mul] at below
    have : l.length * (l.sum / l.length - 1) < l.length * (l.sum / l.length) := Nat.mul_lt_mul_of_pos_left (by omega) pos
    omega

theorem filteredLatency_nil (n : Nat) : filteredLatency n [] = none := rfl

/-- R91: F is the mean of the newest values. -/
theorem filteredLatency_eq {h : List Nat} (n : Nat) (nonempty : h ≠ []) : filteredLatency n h =
    some ((h.drop (h.length - min n h.length)).sum / (h.drop (h.length - min n h.length)).length) := by
  have length : (h.drop (h.length - min n h.length)).length = min n h.length := by
    rw [List.length_drop]
    omega
  rw [length]
  exact if_neg (by simpa using nonempty)

/-- Settles O26: F is the mean of the newest values, so it lies between two of them. -/
theorem filteredLatencyIsAMean : Obligations.FilteredLatencyIsAMean := by
  unfold Obligations.FilteredLatencyIsAMean
  refine ⟨filteredLatency_nil, fun n h hn nonempty => ?_⟩
  set newest := h.drop (h.length - min n h.length) with newest_eq
  have length : newest.length = min n h.length := by
    rw [newest_eq, List.length_drop]
    omega
  have some_newest : newest ≠ [] := by
    have pos : 0 < n := by
      simp only [List.mem_cons, List.not_mem_nil, or_false] at hn
      omega
    have := List.length_pos_iff.2 nonempty
    refine List.ne_nil_of_length_pos ?_
    omega
  have mean : filteredLatency n h = some (newest.sum / newest.length) := filteredLatency_eq n nonempty
  have reversed : (h.reverse.take n).sum = newest.sum := by
    have same_start : h.length - min n h.length = h.length - n := by omega
    rw [List.take_reverse, List.sum_reverse, newest_eq, same_start]
  obtain ⟨⟨lo, lo_mem, lo_le⟩, ⟨hi, hi_mem, le_hi⟩⟩ := mean_between some_newest
  refine ⟨by rw [mean, reversed, length], _, mean, ⟨lo, List.mem_of_mem_drop lo_mem, lo_le⟩,
    ⟨hi, List.mem_of_mem_drop hi_mem, le_hi⟩⟩

/-! ### Snap or rotate (R76, R79 to R82) -/

/-- R79: the deviation used is held within 5 Hz. -/
theorem usedDeviation_bounds (flags dev : BitVec 16) : -5000 ≤ usedDeviation flags dev ∧ usedDeviation flags dev ≤ 5000 := by
  unfold usedDeviation
  split_ifs <;> omega

/-- R80: a turn of a residual of at most 10 ms at most 65 Hz. -/
theorem angleCorrection_le {f0 : Nat} {delta : Int} (flags dev : BitVec 16) (nominal : f0 = 50 ∨ f0 = 60)
    (near : delta.natAbs ≤ 10000000) : (angleCorrection f0 delta flags dev).natAbs ≤ 42598 := by
  obtain ⟨lower, upper⟩ := usedDeviation_bounds flags dev
  have frequency : ((f0 : Int) * 1000 + usedDeviation flags dev).natAbs ≤ 65000 := by omega
  have product := Nat.mul_le_mul near frequency
  have size : (-delta * ((f0 : Int) * 1000 + usedDeviation flags dev) * 65536).natAbs ≤ 10000000 * 65000 * 65536 := by
    rw [Int.natAbs_mul, Int.natAbs_mul, Int.natAbs_neg]
    exact Nat.mul_le_mul_right 65536 product
  rw [angleCorrection, natAbs_roundHalfAway]
  omega

/-- R81: a turn adds the correction to every angle, modulo a full turn. -/
theorem toNat_add_ofInt (angle : BitVec 16) (dtheta : Int) :
    ((angle + BitVec.ofInt 16 dtheta).toNat : Int) = ((angle.toNat : Int) + dtheta) % 65536 := by
  rw [BitVec.toNat_add, BitVec.toNat_ofInt]
  omega

/-- Settles O28: the correction is the rounded turn of the clamped frequency, which the residual of at most 10 ms
bounds. -/
theorem snapRotateOrMisalign : Obligations.SnapRotateOrMisalign := by
  unfold Obligations.SnapRotateOrMisalign
  refine ⟨fun o delta => ⟨fun near => if_pos near, fun far on within => ?_, fun far off => ?_, fun narrow => ?_⟩,
    fun f0 delta flags dev used invalid low high inside => ?_,
    fun f0 delta flags dev nominal near => angleCorrection_le flags dev nominal near,
    fun _ _ _ _ => rfl, fun f0 delta flags m t turned => ?_⟩
  · rw [alignFlag, if_neg (Nat.not_le.2 far), if_pos ⟨on, within⟩]
  · rw [alignFlag, if_neg (Nat.not_le.2 far), if_neg]
    rintro ⟨on, within⟩
    rcases off with off | beyond
    · simp [off] at on
    · omega
  · unfold alignFlag
    split_ifs with snapped rotated
    · simp
    · have := Nat.mul_le_mul_right 1000 narrow
      omega
    · simp
  · have same : usedDeviation flags dev = used := by
      unfold usedDeviation
      split_ifs with bad
      · exact (invalid bad).symm
      · have good : freqInvalid flags = false := Bool.eq_false_iff.2 bad
        have := low good
        have := high good
        have := inside good
        omega
    rw [angleCorrection, same]
  · subst turned
    refine ⟨rfl, ?_, ?_⟩
    · simp [alignedData, Measured.rotate, Function.comp_def]
    · simp only [alignedData, Measured.rotate, List.map_map, Function.comp_def, toNat_add_ofInt]

end Sys2Proof.Machine

/-! What a tick does to one record, and the expected set of the slot it opens. -/

namespace Sys2Proof.Machine

/-! ### The amendment and the silence of one record (R24, R25, R98 to R100) -/

theorem Record.settleAmendment_none {r : Record} (h : r.amend = none) : r.settleAmendment = r := by
  simp only [Record.settleAmendment, h]

theorem Record.settleAmendment_held {r : Record} {m : Amendment} (h : r.amend = some m)
    (out : r.state.inDirectory = false) : r.settleAmendment = r := by
  simp only [Record.settleAmendment, h, out, Bool.false_eq_true, if_false]

theorem Record.settleAmendment_applied {r : Record} {m : Amendment} (h : r.amend = some m)
    (known : r.state.inDirectory = true) : r.settleAmendment = { r.applyAmendment m with amend := none } := by
  simp only [Record.settleAmendment, h, known, if_true]

theorem RecState.inDirectory_eq_false_iff (st : RecState) : st.inDirectory = false ↔ st = .free ∨ st = .retiring := by
  cases st <;> decide

/-- R98: a record that the tick does not count. -/
theorem Record.countSilence_uncounted {r : Record} {rout k : Nat}
    (h : (r.state ≠ .active ∧ r.state ≠ .recovering) ∨ rateExpected r.rs rout k = false) : r.countSilence rout k = r := by
  have uncounted : r.countedAt rout k = false := by
    rcases h with ⟨active, recovering⟩ | unexpected
    · simp [Record.countedAt, active, recovering]
    · simp [Record.countedAt, unexpected]
  simp only [Record.countSilence, uncounted, Bool.false_eq_true, if_false]

theorem Record.countSilence_active {r : Record} {rout k : Nat} (active : r.state = .active)
    (expected : rateExpected r.rs rout k = true) : r.countSilence rout k =
      if r.opts.silenceLimit ≤ r.silence + 1 then
        { r with silence := r.silence + 1, state := .silent, causes := r.causes ||| StreamCause.silent }
      else { r with silence := r.silence + 1 } := by
  have counted : r.countedAt rout k = true := by simp [Record.countedAt, active, expected]
  simp only [Record.countSilence, counted, active, if_true]
  rfl

theorem Record.countSilence_recovering {r : Record} {rout k : Nat} (recovering : r.state = .recovering)
    (expected : rateExpected r.rs rout k = true) : r.countSilence rout k =
      if r.silence + 1 = 2 then { r with silence := 2, state := .silent, recovery := 0 }
      else { r with silence := r.silence + 1 } := by
  have counted : r.countedAt rout k = true := by simp [Record.countedAt, recovering, expected]
  simp only [Record.countSilence, counted, recovering, if_true, reduceCtorEq, if_false]

/-- The three things a count of silence can find. -/
theorem Record.countSilence_cases (r : Record) (rout k : Nat) : r.countSilence rout k = r ∨
    (r.state = .active ∧ r.countSilence rout k =
      if r.opts.silenceLimit ≤ r.silence + 1 then
        { r with silence := r.silence + 1, state := .silent, causes := r.causes ||| StreamCause.silent }
      else { r with silence := r.silence + 1 }) ∨
    (r.state = .recovering ∧ r.countSilence rout k =
      if r.silence + 1 = 2 then { r with silence := 2, state := .silent, recovery := 0 }
      else { r with silence := r.silence + 1 }) := by
  by_cases unexpected : rateExpected r.rs rout k = false
  · exact .inl (Record.countSilence_uncounted (.inr unexpected))
  · have expected : rateExpected r.rs rout k = true := Bool.eq_true_of_not_eq_false unexpected
    by_cases active : r.state = .active
    · exact .inr (.inl ⟨active, Record.countSilence_active active expected⟩)
    · by_cases recovering : r.state = .recovering
      · exact .inr (.inr ⟨recovering, Record.countSilence_recovering recovering expected⟩)
      · exact .inl (Record.countSilence_uncounted (.inl ⟨active, recovering⟩))

/-! ### The expected set (R113) -/

theorem State.mem_expectedSet {s : State} {k i id : Nat} : (i, id) ∈ s.expectedSet k ↔
    i < s.records.length ∧ (s.record i).state = .active ∧ (s.record i).cls = .member ∧
      rateExpected (s.record i).rs s.settings.rout k = true ∧ id = (s.record i).streamId := by
  simp only [State.expectedSet, List.mem_map, List.mem_filter, Prod.exists, List.mem_zipIdx_iff_getElem?,
    Bool.and_eq_true, beq_iff_eq, Prod.mk.injEq]
  constructor
  · rintro ⟨r, j, ⟨at_j, ⟨active, member⟩, expected⟩, rfl, rfl⟩
    rw [State.record_eq_of_getElem? at_j]
    exact ⟨(List.getElem?_eq_some_iff.1 at_j).1, active, member, expected, rfl⟩
  · rintro ⟨lt, active, member, expected, rfl⟩
    have at_i : s.records[i]? = some (s.record i) := by
      rw [State.record, List.getD_eq_getElem?_getD, List.getElem?_eq_getElem lt]
      rfl
    exact ⟨s.record i, i, ⟨at_i, ⟨active, member⟩, expected⟩, rfl, rfl⟩

/-- R113: the expected set ascends by index. -/
theorem State.expectedSet_ascending (s : State) (k : Nat) : ((s.expectedSet k).map (·.1)).Pairwise (· < ·) := by
  have indices : s.records.zipIdx.map (·.2) = List.range' 0 s.records.length := List.zipIdx_map_snd 0 _
  have ascending : (s.records.zipIdx.map (·.2)).Pairwise (· < ·) := indices ▸ List.pairwise_lt_range'
  rw [State.expectedSet, List.map_map]
  exact ascending.sublist (List.filter_sublist.map _)

/-- Settles O14. -/
theorem whatATickDoesToRecords : Obligations.WhatATickDoesToRecords := by
  unfold Obligations.WhatATickDoesToRecords
  refine ⟨⟨fun r none => Record.settleAmendment_none none, fun r m held => ⟨fun out => ?_, fun free retiring => ?_⟩,
    fun r rout k => ⟨fun uncounted => Record.countSilence_uncounted uncounted, ?_, ?_, ?_, ?_⟩⟩,
    fun s k => ⟨s.expectedSet_ascending k, fun i id => State.mem_expectedSet⟩⟩
  · exact Record.settleAmendment_held held ((RecState.inDirectory_eq_false_iff _).2 out)
  · have known : r.state.inDirectory = true := by
      rw [← Bool.not_eq_false, RecState.inDirectory_eq_false_iff]
      exact fun out => out.elim free retiring
    exact Record.settleAmendment_applied held known
  · intro active expected below
    rw [Record.countSilence_active active expected, if_neg (Nat.not_le.2 below)]
  · intro active expected reached
    rw [Record.countSilence_active active expected, if_pos reached]
  · intro recovering expected first
    rw [Record.countSilence_recovering recovering expected, if_neg (by omega)]
  · intro recovering expected second
    rw [Record.countSilence_recovering recovering expected, if_pos (by omega)]

end Sys2Proof.Machine

/-! What the rows can do to one record, and what each of it keeps: the record's place in the registry, its ranges, and its
held count. -/

namespace Sys2Proof.Machine

/-! ### The changes of one record -/

/-- A change of a record that leaves its held count. What comes by the directory comes to a record of the five states. -/
inductive Record.Updated : Record → Record → Prop
  | counted (r : Record) (which : RecCounter) (known : r.state.inDirectory = true) : Updated r (r.count which)
  | raised (r : Record) (c : CauseSet) (known : r.state.inDirectory = true) : Updated r (r.raise c)
  | taught (r : Record) (al : Aligned) (late : Bool) (known : r.state.inDirectory = true)
      (latency : al.latency ≤ 16777215) : Updated r (r.teach al late)
  | amended (r : Record) (items : List Item) (atOnce : Bool) (known : r.state.inDirectory = true)
      (inRange : items.all itemInRange = true) : Updated r (r.amendBy items atOnce)
  | suspended (r : Record) (known : r.state.inDirectory = true) : Updated r r.suspend
  | resumed (r : Record) (suspended : r.state = .suspended) : Updated r { r with state := .pending }
  | restarted (r : Record) (known : r.state.inDirectory = true) : Updated r r.restart
  | settled (r : Record) : Updated r r.settleAmendment
  | silenceCounted (r : Record) (rout k : Nat) : Updated r (r.countSilence rout k)
  | countersCleared (r : Record) : Updated r { r with counters := RecordCounters.zero }
  | causesMasked (r : Record) (mask : CauseSet) : Updated r { r with causes := r.causes &&& mask }

/-- A change of a record by any row but the completion of an edit. -/
inductive Record.Change : Record → Record → Prop
  | updated {r r' : Record} (h : r.Updated r') : Change r r'
  | entered (r : Record) : Change r { r with held := r.held + 1 }
  | released (r : Record) : Change r r.releaseHeld
  | engineReset (r : Record) : Change r r.engineReset

/-- One change after another. -/
def Record.Becomes : Record → Record → Prop := Relation.ReflTransGen Record.Change

theorem Record.Becomes.refl (r : Record) : r.Becomes r := Relation.ReflTransGen.refl

theorem Record.Becomes.trans {r r' r'' : Record} (h : r.Becomes r') (h' : r'.Becomes r'') : r.Becomes r'' :=
  Relation.ReflTransGen.trans h h'

theorem Record.Change.becomes {r r' : Record} (h : r.Change r') : r.Becomes r' := Relation.ReflTransGen.single h

theorem Record.Updated.becomes {r r' : Record} (h : r.Updated r') : r.Becomes r' := (Record.Change.updated h).becomes

/-! ### The record's place in the registry -/

/-- A change that the registry does not see: the record stays what it is to the directory, its ID and rate stay, and its
held count, and it neither becomes nor leaves FREE or RETIRING. -/
structure Record.SamePlace (r r' : Record) : Prop where
  known : r'.state.inDirectory = r.state.inDirectory
  retiring : r'.state = .retiring ↔ r.state = .retiring
  free : r'.state = .free ↔ r.state = .free
  streamId : r'.streamId = r.streamId
  rs : r'.rs = r.rs
  held : r'.held = r.held

theorem Record.SamePlace.of_state {r r' : Record} (state : r'.state = r.state) (streamId : r'.streamId = r.streamId := by rfl)
    (rs : r'.rs = r.rs := by rfl) (held : r'.held = r.held := by rfl) : r.SamePlace r' :=
  ⟨by rw [state], by rw [state], by rw [state], streamId, rs, held⟩

/-- Between two of the five states, the registry sees no difference. -/
theorem Record.SamePlace.of_known {r r' : Record} (known : r.state.inDirectory = true)
    (known' : r'.state.inDirectory = true) (streamId : r'.streamId = r.streamId := by rfl) (rs : r'.rs = r.rs := by rfl)
    (held : r'.held = r.held := by rfl) : r.SamePlace r' := by
  have out {st : RecState} (h : st.inDirectory = true) : st ≠ .retiring ∧ st ≠ .free := by
    constructor <;> rintro rfl <;> exact absurd h (by decide)
  exact ⟨known'.trans known.symm, iff_of_false (out known').1 (out known).1, iff_of_false (out known').2 (out known).2,
    streamId, rs, held⟩

theorem Record.enable_frame (items : List Item) (r : Record) :
    r.enable items = { r with opts := { r.opts with causeEnable := (r.enable items).opts.causeEnable } } := by
  unfold Record.enable
  split <;> rfl

theorem Record.SamePlace.amendBy (items : List Item) (atOnce : Bool) (r : Record) :
    r.SamePlace (r.amendBy items atOnce) := by
  unfold Record.amendBy
  rw [Record.enable_frame]
  split_ifs <;> exact .of_state rfl

theorem Record.SamePlace.countSilence (rout k : Nat) (r : Record) : r.SamePlace (r.countSilence rout k) := by
  rcases r.countSilence_cases rout k with same | ⟨active, counted⟩ | ⟨recovering, counted⟩
  · rw [same]
    exact .of_state rfl
  · have known : r.state.inDirectory = true := by rw [active]; rfl
    rw [counted]
    split_ifs
    · exact .of_known known rfl
    · exact .of_state rfl
  · have known : r.state.inDirectory = true := by rw [recovering]; rfl
    rw [counted]
    split_ifs
    · exact .of_known known rfl
    · exact .of_state rfl

theorem Record.SamePlace.settleAmendment (r : Record) : r.SamePlace r.settleAmendment := by
  unfold Record.settleAmendment
  split
  · exact .of_state rfl
  · split_ifs <;> exact .of_state rfl

theorem Record.SamePlace.suspend {r : Record} (known : r.state.inDirectory = true) : r.SamePlace r.suspend := by
  unfold Record.suspend
  split_ifs
  · exact .of_state rfl
  · exact .of_known known rfl

/-- R101: what a frame makes of the state of a record of the five states is one of them. -/
theorem Record.SamePlace.teach {r : Record} (known : r.state.inDirectory = true) (al : Aligned) (late : Bool) :
    r.SamePlace (r.teach al late) := by
  rw [Record.teach_eq]
  refine .of_known known ?_
  dsimp only
  split_ifs
  · rfl
  · rfl
  · rfl
  · exact known

theorem Record.Updated.samePlace {r r' : Record} (h : r.Updated r') : r.SamePlace r' := by
  cases h
  case taught al late known _ => exact .teach known al late
  case amended items atOnce _ _ => exact .amendBy items atOnce r
  case suspended known => exact .suspend known
  case resumed suspended => exact .of_known (by rw [suspended]; rfl) rfl
  case restarted known =>
    refine .of_known known ?_
    dsimp only [Record.restart]
    split_ifs <;> rfl
  case settled => exact .settleAmendment r
  case silenceCounted rout k => exact .countSilence rout k r
  all_goals exact .of_state rfl

/-- R5: what is free of the FREE values stays so. -/
theorem Record.Updated.vacant {r' : Record} (h : Record.vacant.Updated r') : r' = Record.vacant := by
  cases h
  case settled => rfl
  case silenceCounted => exact Record.countSilence_uncounted (.inl ⟨nofun, nofun⟩)
  case countersCleared => rfl
  case causesMasked mask =>
    exact congrArg (fun causes => { Record.vacant with causes }) BitVec.zero_and
  case resumed suspended => cases suspended
  all_goals exact absurd ‹Record.vacant.state.inDirectory = true› (by decide)

/-- What every change of a record leaves to the directory: the record is of the five states or is not, as before, and then
holds its ID; FREE stays FREE; and the rate stays, but for a record that becomes FREE. -/
structure Record.Resembles (r r' : Record) : Prop where
  known : r'.state.inDirectory = r.state.inDirectory
  streamId : r.state.inDirectory = true → r'.streamId = r.streamId
  free : r.state = .free → r'.state = .free
  rs : r'.state ≠ .free → r'.rs = r.rs

theorem Record.Resembles.trans {r r' r'' : Record} (h : r.Resembles r') (h' : r'.Resembles r'') : r.Resembles r'' where
  known := h'.known.trans h.known
  streamId known := (h'.streamId (h.known.trans known)).trans (h.streamId known)
  free free := h'.free (h.free free)
  rs free := (h'.rs free).trans (h.rs fun free' => free (h'.free free'))

theorem Record.SamePlace.resembles {r r' : Record} (h : r.SamePlace r') : r.Resembles r' :=
  ⟨h.known, fun _ => h.streamId, h.free.2, fun _ => h.rs⟩

/-- R7, R30: a RETIRING record that becomes FREE. -/
theorem Record.Resembles.vacant {r : Record} (retiring : r.state = .retiring) : r.Resembles Record.vacant := by
  refine ⟨by rw [retiring]; rfl, fun known => ?_, fun free => ?_, fun free => absurd rfl free⟩
  · rw [retiring] at known
    cases known
  · rw [retiring] at free
    cases free

theorem Record.Change.resembles {r r' : Record} (h : r.Change r') : r.Resembles r' := by
  cases h
  case updated h => exact h.samePlace.resembles
  case entered => exact ⟨rfl, fun _ => rfl, id, fun _ => rfl⟩
  case released =>
    unfold Record.releaseHeld
    split_ifs with leaves
    · exact .vacant leaves.1
    · exact ⟨rfl, fun _ => rfl, id, fun _ => rfl⟩
  case engineReset =>
    unfold Record.engineReset
    split_ifs with retiring
    · exact .vacant retiring
    · exact ⟨rfl, fun _ => rfl, id, fun _ => rfl⟩

theorem Record.Becomes.resembles {r r' : Record} (h : r.Becomes r') : r.Resembles r' := by
  induction h with
  | refl => exact (Record.SamePlace.of_state rfl).resembles
  | tail _ change ih => exact ih.trans change.resembles

/-! ### The ranges of a record (R1 to R3, R23) -/

theorem Record.vacant_valid : Record.vacant.valid := by
  unfold Record.valid Options.valid Record.healthy Amendment.valid
  decide

/-- R25: an amendment in range, written, leaves the options in range. -/
theorem Options.valid.amended {o : Options} {m : Amendment} (ho : o.valid) (hm : m.valid) : Options.valid { o with
    rotate := m.rotate.getD o.rotate, tau := m.tau.getD o.tau, rho := m.rho.getD o.rho
    filterN := m.filterN.getD o.filterN, silenceLimit := m.silenceLimit.getD o.silenceLimit
    qualityLimit := m.qualityLimit.getD o.qualityLimit, watchMask := m.watchMask.getD o.watchMask } := by
  obtain ⟨tau, rho, filterN, least, greatest, quality⟩ := ho
  obtain ⟨tau', rho', filterN', silence', quality'⟩ := hm
  exact ⟨holds_getD tau' tau, holds_getD rho' rho, holds_getD filterN' filterN,
    holds_getD (fun v h => (silence' v h).1) least, holds_getD (fun v h => (silence' v h).2) greatest,
    holds_getD quality' quality⟩

/-- R25: F is recomputed for an amended N. -/
theorem Record.healthy.amended {r : Record} (h : r.healthy) (m : Amendment) (amend : Option Amendment) :
    Record.healthy { r.applyAmendment m with amend } := by
  obtain ⟨few, small, filtered, rest⟩ := h
  refine ⟨few, small, ?_, rest⟩
  dsimp only [Record.applyAmendment]
  cases m.filterN with
  | none => exact filtered
  | some n => rfl

/-- R22, R25: an amendment in range, written. -/
theorem Record.valid.amended {r : Record} (h : r.valid) {m : Amendment} (hm : m.valid) :
    Record.valid { r.applyAmendment m with amend := none } :=
  ⟨h.1.amended hm, nofun, h.2.2.1.amended m none, h.2.2.2⟩

theorem Amendment.valid_empty : Amendment.empty.valid := ⟨nofun, nofun, nofun, nofun, nofun⟩

/-- What holds of the values of both amendments holds of the merged one's. -/
theorem holds_or {α : Type} {p : α → Prop} {o o' : Option α} (h : ∀ v ∈ o, p v) (h' : ∀ v ∈ o', p v) :
    ∀ v ∈ o.or o', p v := by
  cases o with
  | none => exact h'
  | some a => exact h

theorem Amendment.valid.merge {old new : Amendment} (h : old.valid) (h' : new.valid) : (old.merge new).valid := by
  obtain ⟨tau, rho, filterN, silence, quality⟩ := h
  obtain ⟨tau', rho', filterN', silence', quality'⟩ := h'
  exact ⟨holds_or tau' tau, holds_or rho' rho, holds_or filterN' filterN, holds_or silence' silence,
    holds_or quality' quality⟩

/-- R21, R23: what a command in range names is in range. -/
theorem Amendment.valid_ofItems {items : List Item} (inRange : items.all itemInRange = true) :
    (Amendment.ofItems items).valid := by
  have bounds {code lo hi : Nat} (row : (code, lo, hi) ∈ itemBounds) : ∀ v ∈ itemValue code items, lo ≤ v ∧ v ≤ hi :=
    fun v hv => (itemInRange_iff_bounds row v).1 (itemValue_inRange inRange hv)
  refine ⟨fun v hv => (bounds (code := 3) (lo := 0) (hi := 5000) (by decide) v hv).2,
    fun v hv => (bounds (code := 4) (lo := 0) (hi := 10000) (by decide) v hv).2,
    fun v hv => (itemInRange_filter v).1 (itemValue_inRange inRange hv),
    bounds (by decide), fun v hv => (bounds (code := 7) (lo := 0) (hi := 15) (by decide) v hv).2⟩

/-- R18: options from a command in range. -/
theorem Options.valid_ofItems {items : List Item} (inRange : items.all itemInRange = true) :
    (Options.ofItems items).valid := by
  have defaults : Options.default.valid := by unfold Options.valid; decide
  obtain ⟨tau, rho, filterN, silence, quality⟩ := Amendment.valid_ofItems inRange
  obtain ⟨tau', rho', filterN', least, greatest, quality'⟩ := defaults
  exact ⟨holds_getD tau tau', holds_getD rho rho', holds_getD filterN filterN',
    holds_getD (fun v h => (silence v h).1) least, holds_getD (fun v h => (silence v h).2) greatest,
    holds_getD quality quality'⟩

theorem Record.valid.amendBy {r : Record} (h : r.valid) {items : List Item} (inRange : items.all itemInRange = true)
    (atOnce : Bool) : (r.amendBy items atOnce).valid := by
  have enabled : (r.enable items).valid := by
    rw [Record.enable_frame]
    exact h
  have merged : (r.mergedAmendment items).valid := by
    refine Amendment.valid.merge ?_ (Amendment.valid_ofItems inRange)
    exact holds_getD (fun m hm => h.2.1 m hm) Amendment.valid_empty
  unfold Record.amendBy
  split_ifs
  · exact enabled
  · exact enabled.amended merged
  · exact ⟨enabled.1, fun m hm => Option.some.inj hm ▸ merged, enabled.2.2.1, enabled.2.2.2⟩

theorem Record.valid.settleAmendment {r : Record} (h : r.valid) : r.settleAmendment.valid := by
  unfold Record.settleAmendment
  split
  · exact h
  next m held =>
    split_ifs
    · exact h.amended (h.2.1 m held)
    · exact h

/-- R98 to R100: the count of silence ends before it passes the greatest limit. -/
theorem Record.valid.countSilence {r : Record} (h : r.valid) (rout k : Nat) : (r.countSilence rout k).valid := by
  obtain ⟨opts, amend, ⟨few, small, filtered, heard, recovery, disagree, silence, active, recovering⟩, place⟩ := h
  have limit : r.opts.silenceLimit ≤ 255 := opts.2.2.2.2.1
  rcases r.countSilence_cases rout k with same | ⟨state, counted⟩ | ⟨state, counted⟩
  · rw [same]
    exact ⟨opts, amend, ⟨few, small, filtered, heard, recovery, disagree, silence, active, recovering⟩, place⟩
  · have below := active state
    rw [state] at recovery
    have place' := place (by simp [state])
    rw [counted]
    split_ifs with reached
    · exact ⟨opts, amend, ⟨few, small, filtered, nofun, recovery, disagree, by dsimp only; omega, nofun, nofun⟩,
        fun _ => place'⟩
    · refine ⟨opts, amend, ⟨few, small, filtered, heard, ?_, disagree, ?_, fun _ => ?_, fun recovering => ?_⟩, fun _ => place'⟩
      · dsimp only
        rw [state]
        exact recovery
      · dsimp only; omega
      · dsimp only; omega
      · exact absurd (state.symm.trans recovering) (by decide)
  · have below := recovering state
    have place' := place (by simp [state])
    rw [counted]
    split_ifs with second
    · exact ⟨opts, amend, ⟨few, small, filtered, nofun, rfl, disagree, (by decide : 2 ≤ 255), nofun, nofun⟩, fun _ => place'⟩
    · refine ⟨opts, amend, ⟨few, small, filtered, heard, recovery, disagree, ?_, fun active => ?_, fun _ => ?_⟩, fun _ => place'⟩
      · dsimp only; omega
      · exact absurd (state.symm.trans active) (by decide)
      · dsimp only; omega

/-- R90: the history holds the newest 8 latencies. -/
theorem Record.keptHistory_spec {r : Record} {latency : Nat} (few : r.history.length ≤ 8)
    (small : ∀ l ∈ r.history, l ≤ 16777215) (hl : latency ≤ 16777215) :
    (r.keptHistory latency).length ≤ 8 ∧ (∀ l ∈ r.keptHistory latency, l ≤ 16777215) ∧ r.keptHistory latency ≠ [] := by
  refine ⟨?_, fun l mem => ?_, by simp [Record.keptHistory]⟩
  · rw [Record.keptHistory_eq few, List.length_drop, List.length_append, List.length_singleton]
    omega
  · rw [Record.keptHistory_eq few] at mem
    rcases List.mem_append.1 (List.mem_of_mem_drop mem) with old | new
    · exact small l old
    · exact List.mem_singleton.1 new ▸ hl

/-- R88 to R101: a frame leaves its record's health consistent. -/
theorem Record.valid.teach {r : Record} (h : r.valid) (known : r.state.inDirectory = true) {al : Aligned}
    (latency : al.latency ≤ 16777215) (late : Bool) : (r.teach al late).valid := by
  obtain ⟨opts, amend, ⟨few, small, -, -, recovery, -, -, -, -⟩, place⟩ := h
  obtain ⟨few', small', some_heard⟩ := Record.keptHistory_spec few small latency
  have place' := place fun free => by rw [free] at known; cases known
  rw [Record.teach_eq]
  refine ⟨opts, amend, ⟨few', small', rfl, fun _ => some_heard, ?_, ?_, Nat.zero_le _,
    fun _ => (by decide : 0 < 255), fun _ => (by decide : 0 < 2)⟩, fun _ => place'⟩
  · dsimp only
    rw [recovery]
    cases r.state <;> rfl
  · dsimp only
    split_ifs <;> decide

theorem Record.valid.suspend {r : Record} (h : r.valid) (known : r.state.inDirectory = true) : r.suspend.valid := by
  obtain ⟨opts, amend, ⟨few, small, filtered, -, -, disagree, -, -, -⟩, place⟩ := id h
  have place' := place fun free => by rw [free] at known; cases known
  unfold Record.suspend
  split_ifs
  · exact h
  · exact ⟨opts, amend, ⟨few, small, filtered, nofun, rfl, disagree, Nat.zero_le _, nofun, nofun⟩, fun _ => place'⟩

theorem Record.valid.restart {r : Record} (h : r.valid) (known : r.state.inDirectory = true) : r.restart.valid := by
  have place := h.2.2.2 fun free => by rw [free] at known; cases known
  have quiet : r.restart.state ≠ .active ∧ r.restart.state ≠ .recovering := by
    dsimp only [Record.restart]
    split_ifs <;> decide
  exact ⟨h.1, nofun, ⟨Nat.zero_le _, nofun, rfl, fun active => absurd active quiet.1, (if_neg quiet.2).symm,
    Nat.zero_le _, Nat.zero_le _, fun _ => (by decide : 0 < 255), fun _ => (by decide : 0 < 2)⟩, fun _ => place⟩

theorem Record.Updated.valid {r r' : Record} (h : r.Updated r') (hr : r.valid) : r'.valid := by
  cases h
  case taught al late known latency => exact hr.teach known latency late
  case amended items atOnce _ inRange => exact hr.amendBy inRange atOnce
  case suspended known => exact hr.suspend known
  case resumed suspended =>
    obtain ⟨opts, amend, ⟨few, small, filtered, -, recovery, disagree, silence, -, -⟩, place⟩ := hr
    rw [suspended] at recovery
    exact ⟨opts, amend, ⟨few, small, filtered, nofun, recovery, disagree, silence, nofun, nofun⟩,
      fun _ => place (by simp [suspended])⟩
  case restarted known => exact hr.restart known
  case settled => exact hr.settleAmendment
  case silenceCounted rout k => exact hr.countSilence rout k
  all_goals exact hr

theorem Record.Change.valid {r r' : Record} (h : r.Change r') (hr : r.valid) : r'.valid := by
  cases h
  case updated h => exact h.valid hr
  case entered => exact hr
  case released =>
    unfold Record.releaseHeld
    split_ifs
    · exact Record.vacant_valid
    · exact hr
  case engineReset =>
    unfold Record.engineReset
    split_ifs
    · exact Record.vacant_valid
    · exact hr

theorem Record.Becomes.valid {r r' : Record} (h : r.Becomes r') (hr : r.valid) : r'.valid := by
  induction h with
  | refl => exact hr
  | tail _ change ih => exact change.valid ih

/-- R18: the record of a registration in range. -/
theorem Record.registered_valid {g : Registration} (hg : g.valid) : (Record.registered g).valid := by
  obtain ⟨positive, small, rs, one, tb, p, a, opts⟩ := hg
  exact ⟨opts, nofun, ⟨Nat.zero_le _, nofun, rfl, nofun, rfl, Nat.zero_le _, Nat.zero_le _, nofun, nofun⟩,
    fun _ => ⟨positive, small, rs, one, tb, p, a⟩⟩

/-- R29: what a removal makes of a record of the five states. -/
theorem Record.retired_valid {r : Record} (h : r.valid) (known : r.state.inDirectory = true) : r.retired.valid := by
  have place := h.2.2.2 fun free => by rw [free] at known; cases known
  obtain ⟨opts, -, ⟨few, small, filtered, -, -, disagree, silence, -, -⟩, -⟩ := h
  unfold Record.retired
  split_ifs
  · exact Record.vacant_valid
  · exact ⟨opts, nofun, ⟨few, small, filtered, nofun, rfl, disagree, silence, nofun, nofun⟩, fun _ => place⟩

/-- R16, R18: an accepted REGISTER STREAM spells a registration in range. -/
theorem Registration.valid_ofBody {body : List Byte} {items : List Item} (fixed : fixedPartInRange body = true)
    (inRange : items.all itemInRange = true) : (Registration.ofBody body items).valid := by
  simp only [fixedPartInRange, Bool.and_eq_true, bne_iff_ne, decide_eq_true_eq] at fixed
  obtain ⟨⟨⟨⟨⟨id, -⟩, rs⟩, tb⟩, p⟩, a⟩ := fixed
  have id_lt := fieldAt_lt body 0 4
  have tb_lt := fieldAt_lt body 6 3
  exact ⟨Nat.one_le_iff_ne_zero.2 id, by show fieldAt body 0 4 ≤ _; omega, List.contains_iff_mem.1 rs, tb,
    by show fieldAt body 6 3 ≤ _; omega, p, a, Options.valid_ofItems inRange⟩

end Sys2Proof.Machine

/-! What the rows do to the registry: every record changes in the ways that a record can change, but for the completion of
the two edits; with the proof that every step keeps every record in range. -/

namespace Sys2Proof.Machine

/-! ### The disposition of a frame (R56 to R61, R84) -/

/-- R57: the record that a disposition is of. -/
def Disposition.index : Disposition → Option Nat
  | .unknown => none
  | .refused i | .shape i | .idle i | .decimated i | .misaligned i | .ahead i | .late i _ | .duplicate i
  | .placed i _ => some i

/-- R86: what the arithmetic hands on, if it does. -/
def Disposition.aligned : Disposition → Option Aligned
  | .late _ al | .placed _ al => some al
  | _ => none

theorem State.windowDecision_index (i : Nat) (al : Aligned) (s : State) :
    (s.windowDecision i al).index = some i ∧ ∀ al' ∈ (s.windowDecision i al).aligned, al' = al := by
  unfold State.windowDecision
  split
  · exact ⟨rfl, nofun⟩
  · split_ifs
    · exact ⟨rfl, nofun⟩
    · split
      · exact ⟨rfl, fun _ h => (Option.some.inj h).symm⟩
      · split_ifs
        · exact ⟨rfl, nofun⟩
        · exact ⟨rfl, fun _ h => (Option.some.inj h).symm⟩

/-- R84: the latency is held within its 24 bits. -/
theorem align_latency {g : AlignSettings} {r : Record} {f : QueuedFrame} {al : Aligned} (h : align g r f = .aligned al) :
    al.latency ≤ 16777215 := by
  unfold align at h
  split at h
  · cases h
  · split at h
    · cases h
    · cases h
      exact Nat.min_le_right _ _

/-- R57, R84: a disposition is of the record that the directory gives for the frame's ID. -/
theorem State.dispose_index (f : QueuedFrame) (s : State) :
    (s.dispose f).index = s.lookup f.streamId ∧ ∀ al ∈ (s.dispose f).aligned, al.latency ≤ 16777215 := by
  unfold State.dispose
  split
  next unknown => exact ⟨unknown.symm, nofun⟩
  next i known =>
    rw [known]
    split_ifs
    · exact ⟨rfl, nofun⟩
    · exact ⟨rfl, nofun⟩
    · exact ⟨rfl, nofun⟩
    · split
      · exact ⟨rfl, nofun⟩
      · exact ⟨rfl, nofun⟩
      next al aligned =>
        obtain ⟨index, same⟩ := s.windowDecision_index i al
        exact ⟨index, fun al' h => same al' h ▸ align_latency aligned⟩

/-! ### The records of two states -/

/-- Every record of `t` is what changes have made of the record of `s`. -/
structure State.Evolves (s t : State) : Prop where
  length : t.records.length = s.records.length
  becomes : ∀ i < s.records.length, (s.record i).Becomes (t.record i)

/-- R10: the records that the directory names are of the five states. -/
def State.Known (s : State) : Prop := ∀ id i, s.lookup id = some i → (s.record i).state.inDirectory = true

theorem State.record_congr {s t : State} (h : t.records = s.records) (i : Nat) : t.record i = s.record i := by
  rw [State.record, h, State.record]

theorem State.Evolves.of_records {s t : State} (h : t.records = s.records) : s.Evolves t :=
  ⟨by rw [h], fun i _ => State.record_congr h i ▸ .refl _⟩

theorem State.Evolves.trans {s t u : State} (h : s.Evolves t) (h' : t.Evolves u) : s.Evolves u :=
  ⟨h'.length.trans h.length, fun i lt => (h.becomes i lt).trans (h'.becomes i (h.length ▸ lt))⟩

theorem State.Evolves.setRecord {i : Nat} {r : Record} {s : State} (h : (s.record i).Becomes r) :
    s.Evolves (s.setRecord i r) := by
  refine ⟨List.length_set, fun j lt => ?_⟩
  by_cases same : i = j
  · subst same
    rwa [State.record_setRecord_same r lt]
  · rw [State.record_setRecord_other r s same]
    exact .refl _

theorem State.Evolves.mapRecords {f : Nat → Record → Record} (h : ∀ i r, Record.Becomes r (f i r)) (s : State) :
    s.Evolves (s.mapRecords f) := by
  refine ⟨mapFrom_length f 0 s.records, fun i lt => ?_⟩
  rw [State.record_mapRecords, if_pos lt]
  exact h i _

theorem State.Evolves.beginEmission (s : State) : s.Evolves s.beginEmission := by
  rcases s.beginEmission_cases with same | ⟨sl, rest, -, -, -, taken⟩
  · rw [same]
    exact .of_records rfl
  · rw [taken]
    refine State.Evolves.trans (t := { s with window := rest, emission := some sl }) (.of_records rfl)
      (.mapRecords (fun i r => ?_) _)
    split_ifs
    · exact (Record.Change.released r).becomes
    · exact .refl r

theorem State.Evolves.makeRoom (s : State) : s.Evolves s.makeRoom := by
  rcases s.makeRoom_cases with same | same | ⟨sl, rest, -, -, same⟩ <;> rw [same]
  · exact .of_records rfl
  · exact .beginEmission s
  · refine State.Evolves.trans ?_ (.beginEmission _)
    exact .of_records rfl

theorem State.Evolves.beforeOpening (k : Nat) (s : State) : s.Evolves (s.beforeOpening k) := by
  refine ⟨?_, fun i _ => ?_⟩
  · simp [State.beforeOpening, State.countSilence, State.foldl_leaveActive]
  · rw [State.record_beforeOpening]
    exact (Record.Updated.settled _).becomes.trans (Record.Updated.silenceCounted _ _ _).becomes

theorem State.Evolves.tick (e : Epoch) (s : State) : s.Evolves (s.tick e) := by
  dsimp only [State.tick]
  split_ifs
  · refine ((State.Evolves.makeRoom s).trans (.beforeOpening e.k _)).trans ?_
    refine State.Evolves.trans ?_ (.beginEmission _)
    exact .of_records rfl
  · exact (State.Evolves.makeRoom s).trans (.of_records (by simp))

theorem State.Evolves.tickReached (s : State) : s.Evolves s.tickReached := by
  unfold State.tickReached
  split
  · exact .of_records rfl
  · dsimp only
    split_ifs
    · refine State.Evolves.trans ?_ (.tick _ _)
      exact .of_records (by simp)
    · exact .of_records rfl

theorem State.Evolves.stepTime (t : LocalTime) (s : State) : s.Evolves (s.stepTime t) := by
  unfold State.stepTime
  split_ifs
  · refine State.Evolves.trans (State.Evolves.trans ?_ (.beginEmission _)) (.tickReached _)
    exact .of_records rfl
  · exact .of_records rfl

theorem State.Evolves.takeFrame (s : State) : s.Evolves s.takeFrame := .of_records (by simp)

/-- R62 to R64: a disposition of a record of the five states. -/
theorem State.Evolves.applyDisposition {d : Disposition} {s : State}
    (known : ∀ i ∈ d.index, (s.record i).state.inDirectory = true) (latency : ∀ al ∈ d.aligned, al.latency ≤ 16777215) :
    s.Evolves (s.applyDisposition d) := by
  have counted (which : RecCounter) (i : Nat) (h : some i = d.index) : s.Evolves (s.countFrame which i) :=
    .setRecord (Record.Updated.counted _ which (known i h.symm)).becomes
  cases d
  case unknown => exact .of_records rfl
  case refused i => exact counted _ i rfl
  case shape i => exact counted _ i rfl
  case idle i => exact counted _ i rfl
  case decimated i => exact counted _ i rfl
  case ahead i => exact counted _ i rfl
  case duplicate i => exact counted _ i rfl
  case misaligned i =>
    have known_i := known i rfl
    exact .setRecord ((Record.Updated.counted _ .misaligned known_i).becomes.trans
      (Record.Updated.raised (Record.count .misaligned (s.record i)) StreamCause.misalign known_i).becomes)
  case late i al => exact .setRecord (Record.Updated.taught _ al true (known i rfl) (latency al rfl)).becomes
  case placed i al =>
    show s.Evolves (State.beginEmission _)
    refine State.Evolves.trans ?_ (.beginEmission _)
    show s.Evolves (State.placeEntry i _ al (s.setRecord i _))
    refine State.Evolves.trans (.setRecord ?_) (.of_records rfl)
    exact (Record.Updated.taught _ al false (known i rfl) (latency al rfl)).becomes.trans (Record.Change.entered _).becomes

theorem State.Evolves.endHandling {s : State} (known : s.Known) : s.Evolves s.endHandling := by
  rcases s.endHandling_cases with ⟨-, same⟩ | ⟨f, -, same⟩ <;> rw [same]
  · exact .of_records rfl
  · obtain ⟨index, latency⟩ := s.dispose_index f
    refine State.Evolves.trans (t := { s with handling := none }) (.of_records rfl) (.applyDisposition ?_ latency)
    exact fun i h => known _ i (index ▸ h)

theorem State.Evolves.moveRecord {i : Nat} {r : Record} {s : State} (h : (s.record i).Becomes r) :
    s.Evolves (s.moveRecord i r) := by
  unfold State.moveRecord
  split_ifs
  · refine State.Evolves.trans ?_ (.beginEmission _)
    exact .trans (t := s.leaveActive i) (.of_records rfl) (.setRecord h)
  · exact .setRecord h

theorem State.Evolves.drain (s : State) : s.Evolves s.drain := by
  refine .of_records ?_
  unfold State.drain
  split_ifs <;> simp

theorem State.Evolves.flush (s : State) : s.Evolves s.flush := by
  unfold State.flush
  split_ifs
  · exact .of_records rfl
  · refine State.Evolves.trans ?_ (.of_records (State.endDrain_records _))
    refine State.Evolves.trans ?_ (.beginEmission _)
    exact .of_records rfl

theorem State.Evolves.resetEngine {s : State} (known : s.Known) : s.Evolves s.resetEngine := by
  refine (State.Evolves.endHandling known).trans ?_
  refine State.Evolves.trans ?_ (.mapRecords (fun _ r => (Record.Change.engineReset r).becomes) _)
  exact .of_records rfl

/-! ### What a command makes of the registry -/

/-- R164: no directory edit is in flight. -/
def State.EditFree (s : State) : Prop := ∀ kind tag edit, s.port ≠ .editing kind tag edit

/-- What a row other than the completion of an edit makes of the registry: the records evolve, the directory stays, the
port keeps its edit, has none, or begins one, and the output rate stays or is one that every record fits. -/
structure State.RegistryStep (s t : State) : Prop where
  evolves : s.Evolves t
  directory : t.directory = s.directory
  port : t.port = s.port ∨ t.EditFree ∨ s.EditFree ∧
    ((∃ kind tag i g, t.port = .editing kind tag (.insertion i g) ∧ g.valid ∧ s.lowestFree = some i ∧
        s.lookup g.streamId = none ∧ rateCompatible g.rs s.settings.rout = true) ∨
      ∃ kind tag id i, t.port = .editing kind tag (.removal id i) ∧ s.lookup id = some i)
  settings : t.settings = s.settings ∨ t.EditFree ∧ s.offender t.settings.rout = none ∧ t.records = s.records

theorem State.RegistryStep.of_outside {s t : State} (evolves : s.Evolves t) (outside : t.outside = s.outside) :
    s.RegistryStep t :=
  ⟨evolves, (congrArg State.directory outside :), .inl (congrArg State.port outside :),
    .inl (congrArg State.settings outside :)⟩

theorem State.RegistryStep.of_same {s t : State} (records : t.records = s.records := by rfl)
    (directory : t.directory = s.directory := by rfl) (port : t.port = s.port := by rfl)
    (settings : t.settings = s.settings := by rfl) : s.RegistryStep t :=
  ⟨.of_records records, directory, .inl port, .inl settings⟩

/-- A command that is answered, with what it has made of the records. -/
theorem State.RegistryStep.answered {s u : State} (evolves : s.Evolves u) (m : Message) (status : Status)
    (ret : ReturnFields) (directory : u.directory = s.directory := by rfl) (settings : u.settings = s.settings := by rfl) :
    s.RegistryStep (u.answer m status ret) :=
  ⟨evolves.trans (.of_records rfl), directory, .inr (.inl fun _ _ _ => nofun), .inl settings⟩

theorem Record.Becomes.attended {s : State} {r : Record} {i : Nat} (found : s.attentionFound = some (r, i))
    (mask : CauseSet) : (s.record i).Becomes { r with causes := r.causes &&& mask } := by
  have at_i := State.mem_scanOrder (List.mem_of_find?_eq_some found)
  rw [State.record_eq_of_getElem? at_i]
  exact (Record.Updated.causesMasked r mask).becomes

theorem Message.Effect.registryStep {m : Message} {s u : State} (h : m.Effect s u) (known : s.Known)
    (idle : s.port = .idle) : s.RegistryStep u := by
  have free : s.EditFree := fun kind tag edit => by rw [idle]; nofun
  cases h
  case configured fits =>
    exact ⟨.of_records rfl, rfl, .inr (.inl fun _ _ _ => nofun), .inr ⟨fun _ _ _ => nofun, fits, rfl⟩⟩
  case drained =>
    exact .answered (.drain s) m _ _ (congrArg State.directory s.drain_outside :)
      (congrArg State.settings s.drain_outside :)
  case flushed =>
    exact .answered (.flush s) m _ _ (congrArg State.directory s.flush_outside :)
      (congrArg State.settings s.flush_outside :)
  case engineReset =>
    exact .answered (.resetEngine known) m _ _ (congrArg State.directory s.resetEngine_outside :)
      (congrArg State.settings s.resetEngine_outside :)
  case amended items id i found inRange status _ =>
    exact .answered (.setRecord (Record.Updated.amended _ items _ (known id i found) inRange).becomes) m _ _
  case suspended id i found =>
    exact .answered (.moveRecord (Record.Updated.suspended _ (known id i found)).becomes) m _ _ (by simp) (by simp)
  case resumed id i _ suspended => exact .answered (.setRecord (Record.Updated.resumed _ suspended).becomes) m _ _
  case restarted id i found =>
    exact .answered (.moveRecord (Record.Updated.restarted _ (known id i found)).becomes) m _ _ (by simp) (by simp)
  case countersRead i => exact .answered (.setRecord (Record.Updated.countersCleared _).becomes) m _ _
  case streamCausesTaken r i found =>
    refine State.RegistryStep.answered (s := s) ?_ m _ _
    refine State.Evolves.trans (t := { s with scanPtr := i }) (.of_records rfl) (.setRecord ?_)
    exact .attended found _
  case inserting items i _ fixed inRange new fits lowest =>
    exact ⟨.of_records rfl, rfl, .inr (.inr ⟨free, .inl ⟨m.kind, m.tag, i, _, rfl,
      Registration.valid_ofBody fixed inRange, lowest, new, fits⟩⟩), .inl rfl⟩
  case removing id i _ found =>
    exact ⟨.of_records rfl, rfl, .inr (.inr ⟨free, .inr ⟨m.kind, m.tag, id, i, rfl, found⟩⟩), .inl rfl⟩
  all_goals exact ⟨.of_records rfl, rfl, .inr (.inl fun _ _ _ => nofun), .inl rfl⟩

/-! ### What a row makes of the registry -/

/-- What a row makes of the registry: what a step makes of it that completes no edit, the emptied registry of power-on, or
the completion of an edit. -/
inductive State.RegistryMove (s t : State) : Prop
  | step (h : s.RegistryStep t)
  | emptied (records : t.records = List.replicate 1024 Record.vacant) (directory : t.directory = []) (free : t.EditFree)
  | inserted (kind tag : Byte) (i : Nat) (g : Registration) (edit : s.port = .editing kind tag (.insertion i g))
      (records : t.records = s.records.set i (Record.registered g)) (directory : t.directory = insertPair g.streamId i s.directory)
      (free : t.EditFree) (settings : t.settings = s.settings)
  | removed (kind tag : Byte) (id i : Nat) (edit : s.port = .editing kind tag (.removal id i)) (u : State)
      (records : u.records = s.records.set i (s.record i).retired) (evolves : u.Evolves t)
      (directory : t.directory = removePair id s.directory) (free : t.EditFree) (settings : t.settings = s.settings)

theorem State.Moves.registryMove {s t : State} {c : Instr} (h : s.Moves c t) (known : s.Known) : s.RegistryMove t := by
  cases h
  case powerOn => exact .emptied rfl rfl fun _ _ _ => nofun
  case edge => exact .step (.of_same (by simp) (by simp) (by simp) (by simp))
  case edgeSteps =>
    refine .step ⟨State.Evolves.trans (.of_records (by simp)) (.stepTime _ _), ?_, .inl ?_, .inl ?_⟩
    · exact (congrArg State.directory (State.stepTime_outside _ _) :).trans (by simp [State.outside])
    · exact (congrArg State.port (State.stepTime_outside _ _) :).trans (by simp [State.outside])
    · exact (congrArg State.settings (State.stepTime_outside _ _) :).trans (by simp [State.outside])
  case timedOut => exact .step (.of_same (by simp) (by simp) (by simp) (by simp))
  case edgeMissed => exact .step (.of_same (by simp) (by simp) (by simp) (by simp))
  case ticked e _ _ _ =>
    have same := State.tick_outside e { s with nextEpoch := e.succ s.settings.rout }
    refine .step ⟨State.Evolves.trans ?_ (.tick e _), (congrArg State.directory same :),
      .inl (congrArg State.port same :), .inl (congrArg State.settings same :)⟩
    exact .of_records rfl
  case expired =>
    refine .step (.of_outside (State.Evolves.trans ?_ (.beginEmission _)) (State.beginEmission_outside _))
    exact .of_records rfl
  case frameJoined => exact .step (.of_same (by simp) (by simp) (by simp) (by simp))
  case frameHandled =>
    have known' : s.takeFrame.Known := fun id i found => by
      rw [State.record_congr (State.takeFrame_records s)]
      refine known id i ?_
      rwa [State.lookup, State.takeFrame_directory] at found
    have same := s.takeFrame.endHandling_outside
    refine .step ⟨((State.Evolves.takeFrame s).trans (.endHandling known')).trans (.takeFrame _), ?_, .inl ?_, .inl ?_⟩
    · exact (State.takeFrame_directory _).trans ((congrArg State.directory same :).trans s.takeFrame_directory)
    · exact (State.takeFrame_port _).trans ((congrArg State.port same :).trans s.takeFrame_port)
    · exact (State.takeFrame_settings _).trans ((congrArg State.settings same :).trans s.takeFrame_settings)
  case inserted kind tag i g edit _ =>
    exact .inserted kind tag i g edit (by simp) (by simp) (fun _ _ _ => by simp) (by simp)
  case removed kind tag id i _ edit _ =>
    refine .removed kind tag id i edit (s.setRecord i (s.record i).retired) rfl ?_ (by simp) (fun _ _ _ => by simp) (by simp)
    refine State.Evolves.trans (State.Evolves.trans ?_ (.beginEmission _)) (.takeFrame _)
    exact .of_records rfl
  case emissionBegan => exact .step (.of_outside (.beginEmission s) s.beginEmission_outside)
  case emissionCompleted =>
    refine .step ⟨?_, by simp, .inl (by simp), .inl (by simp)⟩
    refine State.Evolves.trans (State.Evolves.trans ?_ (.beginEmission (s.placed _)))
      (.of_records ((State.endDrain_records _).trans (State.beginTransmission_records _)))
    exact .of_records rfl
  case transmissionBegan => exact .step (.of_same (by simp) (by simp) (by simp) (by simp))
  case transmissionCompleted =>
    refine .step ⟨?_, by simp, .inl (by simp), .inl (by simp)⟩
    refine State.Evolves.trans ?_ (.of_records (State.beginTransmission_records _))
    refine State.Evolves.trans ?_ (.beginEmission _)
    exact .of_records rfl
  case readyAsserted => exact .step (.of_same (by simp) (by simp) (by simp) (by simp))
  case answered a sending => exact .step ⟨.of_records rfl, rfl, .inr (.inl fun _ _ _ => nofun), .inl rfl⟩
  case starts m u before after rest queue free effect row =>
    have free' : s.EditFree := fun kind tag edit port => by rw [State.editInFlight, port] at free; cases free
    obtain ⟨evolves, directory, port, settings⟩ := effect.registryStep known rfl
    refine .step ⟨?_, directory, ?_, settings⟩
    · exact ⟨evolves.length, evolves.becomes⟩
    · rcases port with idle | none | ⟨-, begun⟩
      · exact .inr (.inl fun kind tag edit port => absurd (idle.symm.trans port) nofun)
      · exact .inr (.inl none)
      · exact .inr (.inr ⟨free', begun⟩)
  all_goals exact .step .of_same

end Sys2Proof.Machine

/-! The directory agrees with the records, and the records stay in range, past every row. -/

namespace Sys2Proof.Machine

/-! ### The directory (R10, R11) -/

/-- The edit in flight, as the directory needs it. -/
def State.EditSound (s : State) : Prop :=
  (∀ kind tag i g, s.port = .editing kind tag (.insertion i g) →
    i < 1024 ∧ (s.record i).state = .free ∧ g.streamId ≠ 0 ∧ ∀ p ∈ s.directory, p.1 ≠ g.streamId) ∧
  ∀ kind tag id i, s.port = .editing kind tag (.removal id i) → (id, i) ∈ s.directory

/-- The directory invariant, its parts by name. -/
structure State.DirectoryBy (s : State) : Prop where
  length : s.records.length = 1024
  ascending : (s.directory.map (·.1)).Pairwise (· < ·)
  named : ∀ p ∈ s.directory, p.1 ≠ 0 ∧ p.2 < 1024 ∧ (s.record p.2).state.inDirectory = true ∧
    (s.record p.2).streamId = p.1
  paired : ∀ i < 1024, (s.record i).state.inDirectory = true → ((s.record i).streamId, i) ∈ s.directory
  edit : s.EditSound

theorem State.directorySound_iff {s : State} : s.DirectorySound ↔ s.DirectoryBy := by
  constructor
  · rintro ⟨length, ascending, named, paired, edit⟩
    refine ⟨length, ascending, named, paired, fun kind tag i g port => ?_, fun kind tag id i port => ?_⟩
    · rw [port] at edit
      exact edit
    · rw [port] at edit
      exact edit
  · rintro ⟨length, ascending, named, paired, insertion, removal⟩
    refine ⟨length, ascending, named, paired, ?_⟩
    split
    · exact insertion _ _ _ _ ‹_›
    · exact removal _ _ _ _ ‹_›
    · trivial
    · trivial

theorem State.EditSound.of_free {s : State} (h : s.EditFree) : s.EditSound :=
  ⟨fun _ _ _ _ port => absurd port (h _ _ _), fun _ _ _ _ port => absurd port (h _ _ _)⟩

theorem State.DirectoryBy.known {s : State} (h : s.DirectoryBy) : s.Known := fun _ _ found =>
  (h.named _ (State.lookup_mem found)).2.2.1

/-- R10: the record of a pair is in no other pair. -/
theorem State.DirectoryBy.unique {s : State} (h : s.DirectoryBy) {p q : Nat × Nat} (hp : p ∈ s.directory)
    (hq : q ∈ s.directory) (same : p.2 = q.2) : p = q := by
  have id : p.1 = q.1 := by rw [← (h.named p hp).2.2.2, ← (h.named q hq).2.2.2, same]
  exact Prod.ext id same

/-- The records evolve and the directory stays. -/
theorem State.DirectoryBy.evolved {s t : State} (h : s.DirectoryBy) (evolves : s.Evolves t)
    (directory : t.directory = s.directory) (edit : t.EditSound) : t.DirectoryBy := by
  have same (i : Nat) (lt : i < 1024) := (evolves.becomes i (h.length ▸ lt)).resembles
  refine ⟨evolves.length.trans h.length, directory ▸ h.ascending, fun p mem => ?_, fun i lt known => ?_, edit⟩
  · rw [directory] at mem
    obtain ⟨id, index, known, holds⟩ := h.named p mem
    exact ⟨id, index, (same _ index).known.trans known, ((same _ index).streamId known).trans holds⟩
  · have known' : (s.record i).state.inDirectory = true := (same i lt).known.symm.trans known
    rw [directory, (same i lt).streamId known']
    exact h.paired i lt known'

/-- R18: the lowest FREE record is one of the registry. -/
theorem State.lowestFree_spec {s : State} {i : Nat} (h : s.lowestFree = some i) :
    i < s.records.length ∧ (s.record i).state = .free ∧ ∀ j < i, (s.record j).state ≠ .free := by
  obtain ⟨lt, free, lower⟩ := List.findIdx?_eq_some_iff_getElem.1 h
  have at_index (j : Nat) (hj : j < s.records.length) : s.record j = s.records[j] :=
    State.record_eq_of_getElem? (List.getElem?_eq_getElem hj)
  refine ⟨lt, ?_, fun j hj => ?_⟩
  · rw [at_index i lt]
    exact beq_iff_eq.1 free
  · rw [at_index j (hj.trans lt)]
    simpa using lower j hj

theorem State.DirectoryBy.step {s t : State} (h : s.DirectoryBy) (step : s.RegistryStep t) : t.DirectoryBy := by
  obtain ⟨evolves, directory, port, -⟩ := step
  refine h.evolved evolves directory ?_
  have free (i : Nat) (lt : i < 1024) := (evolves.becomes i (h.length ▸ lt)).resembles.free
  rcases port with same | none | ⟨-, ⟨kind, tag, i, g, inserting, valid, lowest, new, -⟩ | ⟨kind, tag, id, i, removing, found⟩⟩
  · obtain ⟨insertion, removal⟩ := h.edit
    refine ⟨fun kind tag i g port => ?_, fun kind tag id i port => ?_⟩
    · obtain ⟨lt, vacant, id, new⟩ := insertion kind tag i g (same ▸ port)
      exact ⟨lt, free i lt vacant, id, directory ▸ new⟩
    · exact directory ▸ removal kind tag id i (same ▸ port)
  · exact .of_free none
  · refine ⟨fun kind' tag' i' g' port => ?_, fun _ _ _ _ port => absurd (inserting.symm.trans port) nofun⟩
    cases inserting.symm.trans port
    obtain ⟨lt, vacant, -⟩ := State.lowestFree_spec lowest
    rw [h.length] at lt
    refine ⟨lt, free i lt vacant, Nat.one_le_iff_ne_zero.1 valid.1, fun p mem id => ?_⟩
    exact State.lookup_eq_none.1 new ⟨p, directory ▸ mem, id⟩
  · refine ⟨fun _ _ _ _ port => absurd (removing.symm.trans port) nofun, fun kind' tag' id' i' port => ?_⟩
    cases removing.symm.trans port
    exact directory ▸ State.lookup_mem found

/-- R18: an insertion's record was FREE and its ID new. -/
theorem State.DirectoryBy.inserted {s t : State} (h : s.DirectoryBy) {kind tag : Byte} {i : Nat} {g : Registration}
    (edit : s.port = .editing kind tag (.insertion i g)) (records : t.records = s.records.set i (Record.registered g))
    (directory : t.directory = insertPair g.streamId i s.directory) (free : t.EditFree) : t.DirectoryBy := by
  obtain ⟨lt, vacant, id, new⟩ := h.edit.1 kind tag i g edit
  have here : t.record i = Record.registered g :=
    (State.record_congr (t := t) (s := s.setRecord i (Record.registered g)) records i).trans
      (State.record_setRecord_same _ (h.length ▸ lt))
  have other (j : Nat) (hj : i ≠ j) : t.record j = s.record j :=
    (State.record_congr (t := t) (s := s.setRecord i (Record.registered g)) records j).trans
      (State.record_setRecord_other _ s hj)
  have mem_iff (p : Nat × Nat) : p ∈ t.directory ↔ p = (g.streamId, i) ∨ p ∈ s.directory := by
    rw [directory, (insertPair_perm g.streamId i s.directory).mem_iff, List.mem_cons]
  refine ⟨by rw [records, List.length_set, h.length], directory ▸ insertPair_ascending h.ascending new, fun p mem => ?_,
    fun j hj known => ?_, .of_free free⟩
  · rcases (mem_iff p).1 mem with rfl | old
    · rw [here]
      exact ⟨id, lt, rfl, rfl⟩
    · obtain ⟨id', lt', known, holds⟩ := h.named p old
      have distinct : i ≠ p.2 := fun same => by
        rw [← same, vacant] at known
        cases known
      rw [other p.2 distinct]
      exact ⟨id', lt', known, holds⟩
  · by_cases same : i = j
    · subst same
      rw [here]
      exact (mem_iff _).2 (.inl rfl)
    · rw [other j same] at known ⊢
      exact (mem_iff _).2 (.inr (h.paired j hj known))

/-- R29: a removal's pair is gone, and its record is none of the five states. -/
theorem Record.retired_out (r : Record) : r.retired.state.inDirectory = false := by
  unfold Record.retired
  split_ifs <;> rfl

theorem State.DirectoryBy.removed {s u t : State} (h : s.DirectoryBy) {kind tag : Byte} {id i : Nat}
    (edit : s.port = .editing kind tag (.removal id i)) (records : u.records = s.records.set i (s.record i).retired)
    (evolves : u.Evolves t) (directory : t.directory = removePair id s.directory) (free : t.EditFree) : t.DirectoryBy := by
  have pair : (id, i) ∈ s.directory := h.edit.2 kind tag id i edit
  have lt : i < 1024 := (h.named _ pair).2.1
  have length : u.records.length = 1024 := by rw [records, List.length_set, h.length]
  have here : u.record i = (s.record i).retired :=
    (State.record_congr (t := u) (s := s.setRecord i (s.record i).retired) records i).trans
      (State.record_setRecord_same _ (h.length ▸ lt))
  have other (j : Nat) (hj : i ≠ j) : u.record j = s.record j :=
    (State.record_congr (t := u) (s := s.setRecord i (s.record i).retired) records j).trans
      (State.record_setRecord_other _ s hj)
  have mem_iff (p : Nat × Nat) : p ∈ t.directory ↔ p ∈ s.directory ∧ p.1 ≠ id := by
    rw [directory, removePair, List.mem_filter, bne_iff_ne]
  have same (j : Nat) (hj : j < 1024) := (evolves.becomes j (length ▸ hj)).resembles
  refine ⟨evolves.length.trans length, ?_, fun p mem => ?_, fun j hj known => ?_, .of_free free⟩
  · rw [directory]
    exact h.ascending.sublist (List.filter_sublist.map _)
  · obtain ⟨old, distinct⟩ := (mem_iff p).1 mem
    obtain ⟨id', lt', known, holds⟩ := h.named p old
    have elsewhere : i ≠ p.2 := fun index => distinct (congrArg Prod.fst (h.unique old pair index.symm))
    rw [← other p.2 elsewhere] at known holds
    exact ⟨id', lt', (same _ lt').known.trans known, ((same _ lt').streamId known).trans holds⟩
  · have known' : (u.record j).state.inDirectory = true := (same j hj).known.symm.trans known
    have elsewhere : i ≠ j := by
      rintro rfl
      rw [here, Record.retired_out] at known'
      cases known'
    rw [(same j hj).streamId known', other j elsewhere]
    rw [other j elsewhere] at known'
    refine (mem_iff _).2 ⟨h.paired j hj known', fun id_eq => elsewhere ?_⟩
    have distinct : (s.directory.map (·.1)).Nodup := h.ascending.imp Nat.ne_of_lt
    exact (congrArg Prod.snd (List.inj_on_of_nodup_map distinct (h.paired j hj known') pair id_eq)).symm

theorem State.DirectoryBy.of_vacant {t : State} (records : t.records = List.replicate 1024 Record.vacant)
    (directory : t.directory = []) (free : t.EditFree) : t.DirectoryBy := by
  have vacant (i : Nat) : t.record i = Record.vacant :=
    (State.record_congr (s := State.reset) (t := t) records i).trans (State.reset_record i)
  refine ⟨by rw [records, List.length_replicate], by rw [directory]; exact .nil, by rw [directory]; exact nofun,
    fun i _ known => ?_, .of_free free⟩
  rw [vacant] at known
  cases known

theorem State.RegistryMove.directory {s t : State} (h : s.RegistryMove t) (hs : s.DirectoryBy) : t.DirectoryBy := by
  cases h
  case step step => exact hs.step step
  case emptied records directory free => exact .of_vacant records directory free
  case inserted kind tag i g edit records directory free _ => exact hs.inserted edit records directory free
  case removed kind tag id i edit u records evolves directory free _ =>
    exact hs.removed edit records evolves directory free

/-- R31: the step on an empty queue moves no part of the registry. -/
theorem State.ownStep_registry (s : State) :
    s.ownStep.records = s.records ∧ s.ownStep.directory = s.directory ∧ s.ownStep.port = s.port ∧
      s.ownStep.settings = s.settings ∧ s.ownStep.window = s.window := by
  rcases s.ownStep_cases with same | ⟨pending, same⟩ <;> rw [same] <;> exact ⟨rfl, rfl, rfl, rfl, rfl⟩

/-- What a step makes of the registry. -/
theorem step_registryMove {s t : State} (h : step s = .next t) (sound : s.DirectorySound) :
    ∃ pending, State.RegistryMove { s with pending } t := by
  rcases step_cases h with rfl | ⟨c, rest, -, row⟩
  · obtain ⟨records, directory, port, settings, -⟩ := s.ownStep_registry
    exact ⟨s.pending, .step (.of_same records directory port settings)⟩
  · have known : State.Known { s with pending := rest } := (State.directorySound_iff.1 sound).known
    exact ⟨rest, (exec_moves row).registryMove known⟩

theorem step_directorySound {s t : State} (h : step s = .next t) (sound : s.DirectorySound) : t.DirectorySound := by
  obtain ⟨pending, move⟩ := step_registryMove h sound
  exact State.directorySound_iff.2 (move.directory (State.directorySound_iff.1 sound))

/-! ### The ranges of the records -/

/-- The registration of an insertion in flight satisfies `p`. -/
def State.Inserting (p : Registration → Prop) (s : State) : Prop :=
  ∀ kind tag i g, s.port = .editing kind tag (.insertion i g) → p g

theorem State.recordsValid_iff {s : State} :
    s.RecordsValid ↔ (∀ r ∈ s.records, r.valid) ∧ s.Inserting Registration.valid := by
  refine and_congr_right fun _ => ⟨fun h kind tag i g port => ?_, fun h => ?_⟩
  · rw [port] at h
    exact h
  · split
    · exact h _ _ _ _ ‹_›
    all_goals trivial

theorem State.ratesFit_iff {s : State} : s.RatesFit ↔
    (∀ r ∈ s.records, r.state ≠ .free → rateCompatible r.rs s.settings.rout = true) ∧
      s.Inserting (fun g => rateCompatible g.rs s.settings.rout = true) := by
  refine and_congr_right fun _ => ⟨fun h kind tag i g port => ?_, fun h => ?_⟩
  · rw [port] at h
    exact h
  · split
    · exact h _ _ _ _ ‹_›
    all_goals trivial

theorem State.Inserting.of_free {p : Registration → Prop} {s : State} (h : s.EditFree) : s.Inserting p :=
  fun _ _ _ _ port => absurd port (h _ _ _)

/-- What holds of the registration in flight, and of one that a step begins to insert, holds after the step. -/
theorem State.Inserting.step {p : Registration → Prop} {s t : State} (h : s.Inserting p) (step : s.RegistryStep t)
    (new : ∀ g : Registration, g.valid → rateCompatible g.rs s.settings.rout = true → p g) : t.Inserting p := by
  rcases step.port with same | none | ⟨-, ⟨kind, tag, i, g, inserting, valid, -, -, fits⟩ | ⟨kind, tag, id, i, removing, -⟩⟩
  · exact fun kind tag i g port => h kind tag i g (same ▸ port)
  · exact .of_free none
  · intro kind' tag' i' g' port
    cases inserting.symm.trans port
    exact new g valid fits
  · exact fun _ _ _ _ port => absurd (removing.symm.trans port) nofun

theorem State.forall_mem_records {p : Record → Prop} {s : State} :
    (∀ r ∈ s.records, p r) ↔ ∀ i < s.records.length, p (s.record i) := by
  rw [List.forall_mem_iff_getElem]
  refine forall_congr' fun i => forall_congr' fun lt => ?_
  rw [State.record_eq_of_getElem? (List.getElem?_eq_getElem lt)]

/-- What the changes of a record keep, an evolution of the registry keeps. -/
theorem State.Evolves.forall_records {p : Record → Prop} {s t : State} (h : s.Evolves t)
    (kept : ∀ r r' : Record, r.Becomes r' → p r → p r') (hs : ∀ r ∈ s.records, p r) : ∀ r ∈ t.records, p r := by
  rw [State.forall_mem_records] at hs ⊢
  exact fun i lt => kept _ _ (h.becomes i (h.length ▸ lt)) (hs i (h.length ▸ lt))

/-- What holds of every record holds after one is replaced by a record of which it holds. -/
theorem forall_mem_set {p : Record → Prop} {l : List Record} {i : Nat} {r : Record} (h : ∀ r ∈ l, p r) (hr : p r) :
    ∀ r' ∈ l.set i r, p r' := fun _ mem => (List.mem_or_eq_of_mem_set mem).elim (h _) (fun same => same ▸ hr)

/-- R1 to R3: every step keeps the records in range. -/
theorem State.RegistryMove.recordsValid {s t : State} (h : s.RegistryMove t) (hs : s.DirectoryBy)
    (valid : s.RecordsValid) : t.RecordsValid := by
  obtain ⟨records_valid, inserting⟩ := State.recordsValid_iff.1 valid
  rw [State.recordsValid_iff]
  cases h
  case step step =>
    exact ⟨step.evolves.forall_records (fun _ _ becomes => becomes.valid) records_valid,
      inserting.step step fun _ valid _ => valid⟩
  case emptied records _ free =>
    refine ⟨fun r mem => ?_, .of_free free⟩
    rw [records] at mem
    exact List.eq_of_mem_replicate mem ▸ Record.vacant_valid
  case inserted kind tag i g edit records _ free _ =>
    exact ⟨records ▸ forall_mem_set records_valid (Record.registered_valid (inserting kind tag i g edit)), .of_free free⟩
  case removed kind tag id i edit u records evolves _ free _ =>
    obtain ⟨-, lt, known, -⟩ := hs.named _ (hs.edit.2 kind tag id i edit)
    have retired := Record.retired_valid (State.forall_mem_records.1 records_valid i (hs.length ▸ lt)) known
    refine ⟨evolves.forall_records (fun _ _ becomes => becomes.valid) ?_, .of_free free⟩
    exact records ▸ forall_mem_set records_valid retired

/-- R138: with no offender, every record that is not FREE fits the rate. -/
theorem State.offender_none {s : State} {rout : Nat} (h : s.offender rout = none) :
    ∀ r ∈ s.records, r.state ≠ .free → rateCompatible r.rs rout = true := by
  intro r mem free
  have fits := List.findIdx?_eq_none_iff.1 h r mem
  simpa [free] using fits

/-- R17, R138: every step keeps the rates compatible. -/
theorem State.RegistryMove.ratesFit {s t : State} (h : s.RegistryMove t) (hs : s.DirectoryBy) (fit : s.RatesFit) :
    t.RatesFit := by
  obtain ⟨records_fit, inserting⟩ := State.ratesFit_iff.1 fit
  have kept (rout : Nat) (r r' : Record) (becomes : r.Becomes r')
      (h : r.state ≠ .free → rateCompatible r.rs rout = true) (free : r'.state ≠ .free) :
      rateCompatible r'.rs rout = true := by
    rw [becomes.resembles.rs free]
    exact h fun free' => free (becomes.resembles.free free')
  rw [State.ratesFit_iff]
  cases h
  case step step =>
    rcases step.settings with same | ⟨free, fits, records⟩
    · rw [same]
      exact ⟨step.evolves.forall_records (kept _) records_fit, inserting.step step fun _ _ fits => fits⟩
    · rw [records]
      exact ⟨State.offender_none fits, .of_free free⟩
  case emptied records _ free =>
    refine ⟨fun r mem occupied => ?_, .of_free free⟩
    rw [records] at mem
    exact absurd (congrArg Record.state (List.eq_of_mem_replicate mem)) occupied
  case inserted kind tag i g edit records _ free settings =>
    rw [settings]
    exact ⟨records ▸ forall_mem_set records_fit fun _ => inserting kind tag i g edit, .of_free free⟩
  case removed kind tag id i edit u records evolves _ free settings =>
    obtain ⟨-, lt, known, -⟩ := hs.named _ (hs.edit.2 kind tag id i edit)
    have occupied : (s.record i).state ≠ .free := fun free => by rw [free] at known; cases known
    have fits := State.forall_mem_records.1 records_fit i (hs.length ▸ lt) occupied
    rw [settings]
    refine ⟨evolves.forall_records (kept _) ?_, .of_free free⟩
    refine records ▸ forall_mem_set records_fit fun free => ?_
    unfold Record.retired at free ⊢
    split_ifs at free ⊢
    · exact absurd rfl free
    · exact fits

/-- Settles O58: but for the completion of an edit, a row makes of each record what its changes make of it, and every
change keeps a record in range. -/
theorem recordsKept : Obligations.RecordsKept := by
  unfold Obligations.RecordsKept
  refine ⟨fun s t sound valid h => ?_, fun s t sound fit h => ?_⟩
  · obtain ⟨pending, move⟩ := step_registryMove h sound
    exact move.recordsValid (State.directorySound_iff.1 sound) valid
  · obtain ⟨pending, move⟩ := step_registryMove h sound
    exact move.ratesFit (State.directorySound_iff.1 sound) fit

/-! ### The number of pairs -/

/-- The indices of the pairs are the indices of the records of the five states. -/
theorem State.DirectoryBy.indices {s : State} (h : s.DirectoryBy) :
    (s.directory.map (·.2)).Perm ((List.range 1024).filter (fun i => (s.record i).state.inDirectory)) := by
  have nodup : (s.directory.map (·.2)).Nodup :=
    (List.Nodup.of_map _ (h.ascending.imp Nat.ne_of_lt)).map_on fun p hp q hq same => h.unique hp hq same
  refine (List.perm_ext_iff_of_nodup nodup (List.nodup_range.filter _)).2 fun i => ?_
  rw [List.mem_map, List.mem_filter, List.mem_range]
  constructor
  · rintro ⟨p, mem, rfl⟩
    obtain ⟨-, lt, known, -⟩ := h.named p mem
    exact ⟨lt, known⟩
  · rintro ⟨lt, known⟩
    exact ⟨_, h.paired i lt known, rfl⟩

/-- Settles O57: pairs and records of the five states correspond one to one. -/
theorem directoryCountsItsRecords : Obligations.DirectoryCountsItsRecords := by
  unfold Obligations.DirectoryCountsItsRecords
  intro s sound
  have h := State.directorySound_iff.1 sound
  have records : s.records = (List.range 1024).map s.record := by
    refine List.ext_getElem (by simp [h.length]) fun i lt _ => ?_
    rw [List.getElem_map, List.getElem_range, State.record_eq_of_getElem? (List.getElem?_eq_getElem lt)]
  refine ⟨?_, h.indices.nodup_iff.2 (List.nodup_range.filter _)⟩
  calc s.directory.length = (s.directory.map (·.2)).length := (List.length_map _).symm
    _ = ((List.range 1024).filter (fun i => (s.record i).state.inDirectory)).length := h.indices.length_eq
    _ = (List.range 1024).countP (fun i => (s.record i).state.inDirectory) := (List.countP_eq_length_filter ..).symm
    _ = s.records.countP (fun r => r.state.inDirectory) := by rw [records, List.countP_map]; rfl

end Sys2Proof.Machine

/-! The held counts: every row keeps each of them the number of the window's slots with an entry of the record. -/

namespace Sys2Proof.Machine

/-! ### The entries of a record in the window -/

/-- R125: the number of slots of the window with an entry of record `i`. -/
def State.entriesOf (i : Nat) (s : State) : Nat := s.window.countP (fun sl => sl.hasEntry i)

theorem Slot.hasEntry_iff {i : Nat} {sl : Slot} : sl.hasEntry i = true ↔ ∃ e ∈ sl.entries, e.index = i := by
  simp [Slot.hasEntry]

theorem Slot.hasEntry_congr {sl sl' : Slot} (h : sl'.entries = sl.entries) (i : Nat) : sl'.hasEntry i = sl.hasEntry i := by
  rw [Slot.hasEntry, h, Slot.hasEntry]

/-- What happens to the slots of the window but to their entries changes no count. -/
theorem State.entriesOf_map {f : Slot → Slot} (h : ∀ sl, (f sl).entries = sl.entries) (i : Nat) {s t : State}
    (window : t.window = s.window.map f) : t.entriesOf i = s.entriesOf i := by
  have same : (fun sl => Slot.hasEntry i sl) ∘ f = fun sl => Slot.hasEntry i sl :=
    funext fun sl => Slot.hasEntry_congr (h sl) i
  rw [State.entriesOf, window, List.countP_map, same, State.entriesOf]

theorem State.entriesOf_congr (i : Nat) {s t : State} (window : t.window = s.window) : t.entriesOf i = s.entriesOf i := by
  rw [State.entriesOf, window, State.entriesOf]

/-- R117: the slot that a frame joins has its entry, and those it had. -/
theorem Slot.place_hasEntry (i j : Nat) (r : Record) (al : Aligned) (sl : Slot) :
    (sl.place i r al).hasEntry j = (i == j || sl.hasEntry j) := by
  rw [Bool.eq_iff_iff, Bool.or_eq_true, beq_iff_eq, Slot.hasEntry_iff, Slot.hasEntry_iff]
  simp only [Slot.place, Slot.testComplete_entries, (insertEntry_perm _ _).mem_iff, List.mem_cons]
  constructor
  · rintro ⟨e, rfl | old, rfl⟩
    · exact .inl rfl
    · exact .inr ⟨e, old, rfl⟩
  · rintro (rfl | ⟨e, old, rfl⟩)
    · exact ⟨_, .inl rfl, rfl⟩
    · exact ⟨e, .inr old, rfl⟩

/-! ### The slot of a PLACED frame (R116) -/

theorem Slot.openFor_iff {rout key : Nat} {sl : Slot} :
    sl.openFor rout key = true ↔ sl.epoch.key rout = key ∧ sl.status = .opened := by
  simp [Slot.openFor]

/-- R116: a frame is PLACED where an OPEN slot of its epoch holds no entry of its record. -/
theorem State.windowDecision_placed {s : State} {i i' : Nat} {al al' : Aligned}
    (h : s.windowDecision i al = .placed i' al') : ∃ sl,
      s.window.find? (Slot.openFor s.settings.rout (al'.epoch.key s.settings.rout)) = some sl ∧ sl.hasEntry i' = false := by
  unfold State.windowDecision at h
  split at h
  · cases h
  · split_ifs at h
    split at h
    · cases h
    next sl found =>
      split_ifs at h with has
      cases h
      exact ⟨sl, found, Bool.eq_false_iff.2 has⟩

theorem State.dispose_placed {s : State} {f : QueuedFrame} {i : Nat} {al : Aligned} (h : s.dispose f = .placed i al) :
    ∃ sl, s.window.find? (Slot.openFor s.settings.rout (al.epoch.key s.settings.rout)) = some sl ∧
      sl.hasEntry i = false := by
  unfold State.dispose at h
  split at h
  · cases h
  · split_ifs at h
    split at h
    · cases h
    · cases h
    · exact State.windowDecision_placed h

/-- R108: the keys of the window ascend. -/
theorem State.window_ascending {s : State} (h : s.slotKeys.Pairwise (· < ·)) :
    (s.window.map (fun sl => sl.epoch.key s.settings.rout)).Pairwise (· < ·) := by
  rw [State.slotKeys, State.slots, List.map_append] at h
  exact (List.pairwise_append.1 h).2.1

/-- R108, R116: at most one slot is of an epoch, so the slot that a frame joins stands alone between slots that it does not
touch. -/
theorem State.window_split {s : State} (ascending : s.slotKeys.Pairwise (· < ·)) {key : Nat} {sl : Slot}
    (found : s.window.find? (Slot.openFor s.settings.rout key) = some sl) : ∃ before after,
      s.window = before ++ sl :: after ∧ sl.openFor s.settings.rout key = true ∧
        ∀ sl' ∈ before ++ after, sl'.openFor s.settings.rout key = false := by
  obtain ⟨joins, before, after, split, skipped⟩ := List.find?_eq_some_iff_append.1 found
  refine ⟨before, after, split, joins, fun sl' mem => ?_⟩
  rcases List.mem_append.1 mem with earlier | later
  · simpa using skipped sl' earlier
  · have window := State.window_ascending ascending
    rw [split, List.map_append, List.map_cons] at window
    have above := (List.pairwise_cons.1 (List.pairwise_append.1 window).2.1).1 _ (List.mem_map_of_mem later)
    rw [(Slot.openFor_iff.1 joins).1] at above
    refine Bool.eq_false_iff.2 fun also => ?_
    rw [(Slot.openFor_iff.1 also).1] at above
    exact absurd above (lt_irrefl _)

/-- R117: the entry of a PLACED frame is one more of its record's in the window. -/
theorem State.placeEntry_entriesOf {s : State} (ascending : s.slotKeys.Pairwise (· < ·)) {i : Nat} {r : Record}
    {al : Aligned} {sl : Slot}
    (found : s.window.find? (Slot.openFor s.settings.rout (al.epoch.key s.settings.rout)) = some sl)
    (new : sl.hasEntry i = false) (j : Nat) :
    (s.placeEntry i r al).entriesOf j = s.entriesOf j + if i = j then 1 else 0 := by
  obtain ⟨before, after, split, joins, others⟩ := State.window_split ascending found
  have untouched (l : List Slot) (h : ∀ sl' ∈ l, sl'.openFor s.settings.rout (al.epoch.key s.settings.rout) = false) :
      l.map (fun sl => if sl.openFor s.settings.rout (al.epoch.key s.settings.rout) then sl.place i r al else sl) = l := by
    refine (List.map_congr_left fun sl' mem => ?_).trans (List.map_id l)
    rw [h sl' mem]
    rfl
  have window : (s.placeEntry i r al).window = before ++ sl.place i r al :: after := by
    show s.window.map _ = _
    rw [split, List.map_append, List.map_cons, untouched before fun sl' mem => others sl' (List.mem_append_left _ mem),
      untouched after fun sl' mem => others sl' (List.mem_append_right _ mem), if_pos joins]
  rw [State.entriesOf, window, State.entriesOf, split]
  simp only [List.countP_append, List.countP_cons, Slot.place_hasEntry]
  by_cases same : i = j
  · subst same
    simp [new]
    omega
  · simp [same]

/-! ### The invariant -/

/-- The invariant of the held counts, with the size of the registry. -/
structure State.Counted (s : State) : Prop where
  length : s.records.length = 1024
  held : ∀ i < 1024, (s.record i).held = s.entriesOf i
  retiring : ∀ i < 1024, (s.record i).state = .retiring → 0 < (s.record i).held
  vacant : ∀ i < 1024, (s.record i).state = .free → s.record i = Record.vacant

theorem State.counted_iff {s : State} (length : s.records.length = 1024) : s.HeldCounted ↔ s.Counted :=
  ⟨fun h => ⟨length, fun i lt => (h i lt).1, fun i lt => (h i lt).2.1, fun i lt => (h i lt).2.2⟩,
    fun h i lt => ⟨h.held i lt, h.retiring i lt, h.vacant i lt⟩⟩

/-- A change that the held counts do not see. -/
def Record.Keeps (r r' : Record) : Prop := r.SamePlace r' ∧ (r = Record.vacant → r' = Record.vacant)

theorem Record.Keeps.refl (r : Record) : r.Keeps r := ⟨.of_state rfl, id⟩

theorem Record.Keeps.trans {r r' r'' : Record} (h : r.Keeps r') (h' : r'.Keeps r'') : r.Keeps r'' :=
  ⟨⟨h'.1.known.trans h.1.known, h'.1.retiring.trans h.1.retiring, h'.1.free.trans h.1.free,
    h'.1.streamId.trans h.1.streamId, h'.1.rs.trans h.1.rs, h'.1.held.trans h.1.held⟩, fun vacant => h'.2 (h.2 vacant)⟩

theorem Record.Updated.keeps {r r' : Record} (h : r.Updated r') : r.Keeps r' :=
  ⟨h.samePlace, fun vacant => by subst vacant; exact h.vacant⟩

theorem State.Counted.of_keeps {s t : State} (h : s.Counted) (length : t.records.length = s.records.length)
    (keeps : ∀ i < 1024, (s.record i).Keeps (t.record i)) (entries : ∀ i, t.entriesOf i = s.entriesOf i) : t.Counted where
  length := length.trans h.length
  held i lt := by rw [(keeps i lt).1.held, entries, h.held i lt]
  retiring i lt retiring := by
    rw [(keeps i lt).1.held]
    exact h.retiring i lt ((keeps i lt).1.retiring.1 retiring)
  vacant i lt free := (keeps i lt).2 (h.vacant i lt ((keeps i lt).1.free.1 free))

theorem State.Counted.of_same {s t : State} (h : s.Counted) (records : t.records = s.records)
    (entries : ∀ i, t.entriesOf i = s.entriesOf i) : t.Counted :=
  h.of_keeps (by rw [records]) (fun i _ => State.record_congr records i ▸ .refl _) entries

theorem State.Counted.of_window {s t : State} (h : s.Counted) (records : t.records = s.records)
    (window : t.window = s.window) : t.Counted := h.of_same records fun i => State.entriesOf_congr i window

theorem State.Counted.mapWindow {s t : State} (h : s.Counted) {f : Slot → Slot} (entries : ∀ sl, (f sl).entries = sl.entries)
    (window : t.window = s.window.map f) (records : t.records = s.records) : t.Counted :=
  h.of_same records fun i => State.entriesOf_map entries i window

theorem State.Counted.leaveActive {s : State} (h : s.Counted) (i : Nat) : (s.leaveActive i).Counted :=
  h.mapWindow (f := Slot.dropExpected i) (Slot.dropExpected_entries i) rfl rfl

theorem State.Counted.setRecord {s : State} (h : s.Counted) {i : Nat} {r : Record} (keeps : (s.record i).Keeps r) :
    (s.setRecord i r).Counted := by
  refine h.of_keeps List.length_set (fun j lt => ?_) fun j => State.entriesOf_congr j rfl
  by_cases same : i = j
  · subst same
    rwa [State.record_setRecord_same r (h.length ▸ lt)]
  · rw [State.record_setRecord_other r s same]
    exact .refl _

/-- R30, R125: the slot that leaves the window takes its entries with it. -/
theorem State.Counted.beginEmission {s : State} (h : s.Counted) : s.beginEmission.Counted := by
  rcases s.beginEmission_cases with same | ⟨sl, rest, hw, -, -, taken⟩
  · rwa [same]
  · rw [taken]
    have entries (i : Nat) : s.entriesOf i = rest.countP (fun sl => sl.hasEntry i) + if sl.hasEntry i then 1 else 0 := by
      rw [State.entriesOf, hw, List.countP_cons]
    have record (i : Nat) (lt : i < 1024) : (State.mapRecords (fun i r => if sl.hasEntry i then r.releaseHeld else r)
        { s with window := rest, emission := some sl }).record i =
          if sl.hasEntry i then (s.record i).releaseHeld else s.record i := by
      rw [State.record_mapRecords, if_pos (h.length.symm ▸ lt)]
      rfl
    have each (i : Nat) (lt : i < 1024) (r : Record) (hr : r = if sl.hasEntry i then (s.record i).releaseHeld else s.record i) :
        r.held = rest.countP (fun sl => sl.hasEntry i) ∧ (r.state = .retiring → 0 < r.held) ∧
          (r.state = .free → r = Record.vacant) := by
      have held := h.held i lt
      rw [entries] at held
      by_cases has : sl.hasEntry i = true
      · rw [if_pos has] at held hr
        subst hr
        unfold Record.releaseHeld
        split_ifs with leaves
        · refine ⟨?_, nofun, fun _ => rfl⟩
          show 0 = _
          omega
        · refine ⟨by dsimp only; omega, fun retiring => ?_, fun free => ?_⟩
          · have : ¬ (s.record i).held ≤ 1 := fun few => leaves ⟨retiring, few⟩
            dsimp only
            omega
          · rw [h.vacant i lt free] at held
            exact absurd held (by show 0 ≠ _; omega)
      · rw [if_neg has] at held hr
        subst hr
        exact ⟨held, h.retiring i lt, h.vacant i lt⟩
    exact ⟨(mapFrom_length _ _ _).trans h.length, fun i lt => (each i lt _ (record i lt)).1,
      fun i lt => (each i lt _ (record i lt)).2.1, fun i lt => (each i lt _ (record i lt)).2.2⟩

theorem State.Counted.makeRoom {s : State} (h : s.Counted) : s.makeRoom.Counted := by
  rcases s.makeRoom_cases with same | same | ⟨sl, rest, hw, -, same⟩ <;> rw [same]
  · exact h
  · exact h.beginEmission
  · refine State.Counted.beginEmission (h.of_same rfl fun i => ?_)
    show (sl.release .windowFull :: rest).countP _ = _
    rw [State.entriesOf, hw, List.countP_cons, List.countP_cons, Slot.hasEntry_congr (Slot.release_entries _ sl)]

theorem Slot.foldl_dropExpected_entries (fell : List Nat) (sl : Slot) :
    (fell.foldl (fun acc i => Slot.dropExpected i acc) sl).entries = sl.entries := by
  induction fell generalizing sl with
  | nil => rfl
  | cons i fell ih => rw [List.foldl_cons, ih, Slot.dropExpected_entries]

theorem State.Counted.beforeOpening {s : State} (h : s.Counted) (k : Nat) : (s.beforeOpening k).Counted := by
  obtain ⟨fell, window, -, -⟩ := s.beforeOpening_window k
  refine h.of_keeps (State.Evolves.beforeOpening k s).length (fun i _ => ?_)
    fun i => State.entriesOf_map (Slot.foldl_dropExpected_entries fell) i window
  rw [State.record_beforeOpening]
  exact (Record.Updated.settled _).keeps.trans (Record.Updated.silenceCounted _ _ _).keeps

theorem State.Counted.tick {s : State} (h : s.Counted) (e : Epoch) : (s.tick e).Counted := by
  dsimp only [State.tick]
  split_ifs
  · refine State.Counted.beginEmission ((h.makeRoom.beforeOpening e.k).of_same rfl fun i => ?_)
    have new : ((s.makeRoom.beforeOpening e.k).newSlot e).entries = [] := rfl
    rw [State.entriesOf, State.pushSlot_window, List.countP_append, List.countP_singleton,
      Slot.hasEntry, Slot.expire_entries, new]
    rfl
  · exact h.makeRoom.of_window (by simp) (by simp)

theorem State.Counted.tickReached {s : State} (h : s.Counted) : s.tickReached.Counted := by
  unfold State.tickReached
  split
  · exact h
  · dsimp only
    split_ifs
    · exact State.Counted.tick (h.of_window (by simp) (by simp)) _
    · exact h

theorem State.Counted.stepTime {s : State} (h : s.Counted) (t : LocalTime) : (s.stepTime t).Counted := by
  unfold State.stepTime
  split_ifs
  · refine State.Counted.tickReached (State.Counted.beginEmission ?_)
    exact h.mapWindow (f := Slot.expire t) (Slot.expire_entries t) rfl rfl
  · exact h.of_window rfl rfl

theorem State.Counted.takeFrame {s : State} (h : s.Counted) : s.takeFrame.Counted := h.of_window (by simp) (by simp)

/-- R5, R117: a PLACED frame adds 1 to its record's held count, and its record's entry to one slot. -/
theorem State.Counted.placed {s : State} (h : s.Counted) (ascending : s.slotKeys.Pairwise (· < ·)) {i : Nat} {al : Aligned}
    {sl : Slot} (found : s.window.find? (Slot.openFor s.settings.rout (al.epoch.key s.settings.rout)) = some sl)
    (new : sl.hasEntry i = false) (lt : i < 1024) {r : Record} (keeps : (s.record i).Keeps r)
    (occupied : (s.record i).state ≠ .free) :
    ((s.setRecord i { r with held := r.held + 1 }).placeEntry i r al).Counted := by
  have entries := State.placeEntry_entriesOf (s := s.setRecord i { r with held := r.held + 1 }) (r := r) ascending found new
  have here : ((s.setRecord i { r with held := r.held + 1 }).placeEntry i r al).record i = { r with held := r.held + 1 } :=
    State.record_setRecord_same _ (h.length ▸ lt)
  have other (j : Nat) (distinct : i ≠ j) :
      ((s.setRecord i { r with held := r.held + 1 }).placeEntry i r al).record j = s.record j :=
    State.record_setRecord_other _ s distinct
  refine ⟨List.length_set.trans h.length, fun j hj => ?_, fun j hj => ?_, fun j hj => ?_⟩
  all_goals by_cases same : i = j
  · subst same
    rw [here, entries, if_pos rfl]
    show r.held + 1 = _
    rw [keeps.1.held, h.held i lt]
    rfl
  · rw [other j same, entries, if_neg same]
    exact h.held j hj
  · subst same
    rw [here]
    exact fun _ => Nat.succ_pos _
  · rw [other j same]
    exact h.retiring j hj
  · subst same
    rw [here]
    exact fun free => absurd (keeps.1.free.1 free) occupied
  · rw [other j same]
    exact h.vacant j hj

theorem State.Counted.endHandling {s : State} (h : s.Counted) (ascending : s.slotKeys.Pairwise (· < ·))
    (directory : s.DirectoryBy) : s.endHandling.Counted := by
  rcases s.endHandling_cases with ⟨-, same⟩ | ⟨f, -, same⟩ <;> rw [same]
  · exact h
  · obtain ⟨index, latency⟩ := s.dispose_index f
    have done : State.Counted { s with handling := none } := h.of_window rfl rfl
    have named (i : Nat) (hi : (s.dispose f).index = some i) : i < 1024 ∧ (s.record i).state.inDirectory = true := by
      obtain ⟨-, lt, known, -⟩ := directory.named _ (State.lookup_mem (index.symm.trans hi))
      exact ⟨lt, known⟩
    have counted (which : RecCounter) (i : Nat) (hi : (s.dispose f).index = some i) :
        (State.countFrame which i { s with handling := none }).Counted :=
      done.setRecord (Record.Updated.counted (s.record i) which (named i hi).2).keeps
    cases hd : s.dispose f
    all_goals rw [hd] at named latency counted
    case unknown => exact done.of_window rfl rfl
    case refused i => exact counted _ i rfl
    case shape i => exact counted _ i rfl
    case idle i => exact counted _ i rfl
    case decimated i => exact counted _ i rfl
    case ahead i => exact counted _ i rfl
    case duplicate i => exact counted _ i rfl
    case misaligned i =>
      exact done.setRecord ((Record.Updated.counted (s.record i) .misaligned (named i rfl).2).keeps.trans
        (Record.Updated.raised (Record.count .misaligned (s.record i)) StreamCause.misalign (named i rfl).2).keeps)
    case late i al => exact done.setRecord (Record.Updated.taught (s.record i) al true (named i rfl).2 (latency al rfl)).keeps
    case placed i al =>
      obtain ⟨lt, known⟩ := named i rfl
      obtain ⟨sl, found, new⟩ := State.dispose_placed hd
      have occupied : (s.record i).state ≠ .free := fun free => by rw [free] at known; cases known
      exact State.Counted.beginEmission (done.placed ascending found new lt
        (Record.Updated.taught (s.record i) al false known (latency al rfl)).keeps occupied)

theorem State.Counted.moveRecord {s : State} (h : s.Counted) {i : Nat} {r : Record} (keeps : (s.record i).Keeps r) :
    (s.moveRecord i r).Counted := by
  unfold State.moveRecord
  split_ifs
  · exact ((h.leaveActive i).setRecord keeps).beginEmission
  · exact h.setRecord keeps

theorem State.Counted.drain {s : State} (h : s.Counted) : s.drain.Counted := by
  unfold State.drain
  split_ifs
  · exact h.of_window (by simp) (by simp)
  · exact h

theorem State.Counted.flush {s : State} (h : s.Counted) : s.flush.Counted := by
  unfold State.flush
  split_ifs
  · exact h
  · refine State.Counted.of_window ?_ (State.endDrain_records _) (State.endDrain_window _)
    refine State.Counted.beginEmission ?_
    exact h.mapWindow (f := Slot.release .flush) (Slot.release_entries _) rfl rfl

/-- R7: after RESET ENGINE no slot holds an entry, and no record is held. -/
theorem State.Counted.clearEngine {s : State} (h : s.Counted) : s.clearEngine.Counted := by
  have record (i : Nat) (lt : i < 1024) : s.clearEngine.record i = (s.record i).engineReset := by
    rw [State.clearEngine, State.record_mapRecords, if_pos (h.length.symm ▸ lt)]
    rfl
  have each (i : Nat) (lt : i < 1024) : (s.record i).engineReset.held = 0 ∧ (s.record i).engineReset.state ≠ .retiring ∧
      ((s.record i).engineReset.state = .free → (s.record i).engineReset = Record.vacant) := by
    unfold Record.engineReset
    split_ifs with retiring
    · exact ⟨rfl, nofun, fun _ => rfl⟩
    · exact ⟨rfl, retiring, fun free => by rw [h.vacant i lt free]; rfl⟩
  refine ⟨(mapFrom_length _ _ _).trans h.length, fun i lt => ?_, fun i lt retiring => ?_, fun i lt => ?_⟩
  · rw [record i lt]
    exact (each i lt).1
  · rw [record i lt] at retiring
    exact absurd retiring (each i lt).2.1
  · rw [record i lt]
    exact (each i lt).2.2

/-- R18: the record of an insertion was FREE, so no slot holds an entry of it. -/
theorem State.Counted.inserted {s : State} (h : s.Counted) {i : Nat} (lt : i < 1024) (free : (s.record i).state = .free)
    (g : Registration) : (s.setRecord i (Record.registered g)).Counted := by
  have held := h.held i lt
  rw [h.vacant i lt free] at held
  refine ⟨List.length_set.trans h.length, fun j hj => ?_, fun j hj => ?_, fun j hj => ?_⟩
  all_goals by_cases same : i = j
  · subst same
    rw [State.record_setRecord_same _ (h.length ▸ lt)]
    exact held
  · rw [State.record_setRecord_other _ s same]
    exact h.held j hj
  · subst same
    rw [State.record_setRecord_same _ (h.length ▸ lt)]
    nofun
  · rw [State.record_setRecord_other _ s same]
    exact h.retiring j hj
  · subst same
    rw [State.record_setRecord_same _ (h.length ▸ lt)]
    nofun
  · rw [State.record_setRecord_other _ s same]
    exact h.vacant j hj

/-- R29: a removed record is FREE where no slot holds an entry of it, and RETIRING otherwise. -/
theorem State.Counted.retired {s : State} (h : s.Counted) {i : Nat} (lt : i < 1024) :
    (s.setRecord i (s.record i).retired).Counted := by
  have held := h.held i lt
  have here := State.record_setRecord_same (s := s) (s.record i).retired (h.length ▸ lt)
  have retired : (s.record i).retired.held = (s.record i).held ∧
      ((s.record i).retired.state = .retiring → 0 < (s.record i).retired.held) ∧
        ((s.record i).retired.state = .free → (s.record i).retired = Record.vacant) := by
    unfold Record.retired
    split_ifs with none
    · exact ⟨none.symm, nofun, fun _ => rfl⟩
    · exact ⟨rfl, fun _ => Nat.pos_of_ne_zero none, nofun⟩
  refine ⟨List.length_set.trans h.length, fun j hj => ?_, fun j hj => ?_, fun j hj => ?_⟩
  all_goals by_cases same : i = j
  · subst same
    rw [here, retired.1]
    exact held
  · rw [State.record_setRecord_other _ s same]
    exact h.held j hj
  · subst same
    rw [here]
    exact retired.2.1
  · rw [State.record_setRecord_other _ s same]
    exact h.retiring j hj
  · subst same
    rw [here]
    exact retired.2.2
  · rw [State.record_setRecord_other _ s same]
    exact h.vacant j hj

/-! ### Commands and rows -/

theorem Message.Effect.counted {m : Message} {s u : State} (h : m.Effect s u) (hs : s.Counted)
    (ascending : s.slotKeys.Pairwise (· < ·)) (directory : s.DirectoryBy) : u.Counted := by
  have known := directory.known
  cases h
  case drained => exact hs.drain.of_window rfl rfl
  case flushed => exact hs.flush.of_window rfl rfl
  case engineReset => exact (hs.endHandling ascending directory).clearEngine.of_window rfl rfl
  case amended items id i found inRange _ _ =>
    exact (hs.setRecord (Record.Updated.amended _ items _ (known id i found) inRange).keeps).of_window rfl rfl
  case suspended id i found =>
    exact (hs.moveRecord (Record.Updated.suspended _ (known id i found)).keeps).of_window rfl rfl
  case resumed id i _ suspended => exact (hs.setRecord (Record.Updated.resumed _ suspended).keeps).of_window rfl rfl
  case restarted id i found =>
    exact (hs.moveRecord (Record.Updated.restarted _ (known id i found)).keeps).of_window rfl rfl
  case countersRead i => exact (hs.setRecord (Record.Updated.countersCleared (s.record i)).keeps).of_window rfl rfl
  case streamCausesTaken r i found =>
    have at_i := State.mem_scanOrder (List.mem_of_find?_eq_some found)
    have keeps : (s.record i).Keeps { r with causes := r.causes &&& ~~~r.opts.causeEnable } := by
      rw [State.record_eq_of_getElem? at_i]
      exact (Record.Updated.causesMasked r _).keeps
    exact (hs.setRecord keeps).of_window rfl rfl
  all_goals exact hs.of_window rfl rfl

theorem State.Moves.counted {s t : State} {c : Instr} (h : s.Moves c t) (hs : s.Counted)
    (ascending : s.slotKeys.Pairwise (· < ·)) (directory : s.DirectoryBy) : t.Counted := by
  cases h
  case powerOn =>
    have vacant (i : Nat) : State.reset.record i = Record.vacant := State.reset_record i
    refine ⟨List.length_replicate, fun i _ => ?_, fun i _ retiring => ?_, fun i _ _ => vacant i⟩
    · exact congrArg Record.held (vacant i)
    · exact absurd ((congrArg Record.state (vacant i)).symm.trans retiring) nofun
  case edge => exact hs.of_window (by simp) (by simp)
  case edgeSteps => exact State.Counted.stepTime (hs.of_window (by simp) (by simp)) _
  case timedOut => exact hs.of_window (by simp) (by simp)
  case edgeMissed => exact hs.of_window (by simp) (by simp)
  case ticked e _ _ _ =>
    refine State.Counted.tick ?_ e
    exact hs.of_window rfl rfl
  case expired e =>
    refine State.Counted.beginEmission ?_
    refine hs.mapWindow (f := Slot.expireIf e s.time) (fun sl => ?_) rfl rfl
    unfold Slot.expireIf
    split_ifs
    · exact Slot.release_entries _ sl
    · rfl
  case frameJoined => exact hs.of_window (by simp) (by simp)
  case frameHandled =>
    have ascending' : s.takeFrame.slotKeys.Pairwise (· < ·) := (State.SameRun.takeFrame s).keys ▸ ascending
    have taken := State.RegistryStep.of_same s.takeFrame_records s.takeFrame_directory s.takeFrame_port s.takeFrame_settings
    exact (hs.takeFrame.endHandling ascending' (directory.step taken)).takeFrame
  case inserted kind tag i g edit _ =>
    obtain ⟨lt, free, -⟩ := directory.edit.1 kind tag i g edit
    refine State.Counted.takeFrame ?_
    exact (hs.inserted lt free g).of_window rfl rfl
  case removed kind tag id i _ edit _ =>
    obtain ⟨-, lt, -⟩ := directory.named _ (directory.edit.2 kind tag id i edit)
    refine State.Counted.takeFrame (State.Counted.beginEmission ?_)
    refine (hs.retired lt).of_same rfl fun j => ?_
    dsimp only [State.setRecord]
    split_ifs
    · exact State.entriesOf_map (Slot.dropExpected_entries i) j rfl
    · exact State.entriesOf_congr j rfl
  case emissionBegan => exact hs.beginEmission
  case emissionCompleted sl _ =>
    have placed : (s.placed sl).Counted := hs.of_window rfl rfl
    refine placed.beginEmission.of_window ?_ ?_
    · exact (State.endDrain_records _).trans (State.beginTransmission_records _)
    · exact (State.endDrain_window _).trans (State.beginTransmission_window _)
  case transmissionBegan => exact hs.of_window (by simp) (by simp)
  case transmissionCompleted =>
    refine State.Counted.of_window ?_ (State.beginTransmission_records _) (State.beginTransmission_window _)
    refine State.Counted.beginEmission ?_
    exact hs.of_window rfl rfl
  case readyAsserted => exact hs.of_window (by simp) (by simp)
  case starts m u before after rest queue _ effect _ =>
    have same : s.RegistryStep { s with port := .idle, reception := before, queue := rest } :=
      ⟨.of_records rfl, rfl, .inr (.inl fun _ _ _ => nofun), .inl rfl⟩
    exact (effect.counted (hs.of_window rfl rfl) ascending (directory.step same)).of_window rfl rfl
  all_goals exact hs.of_window rfl rfl

/-- Settles O56: the run invariant keeps the slots of an epoch one, so that a PLACED frame's entry is counted once, and
the directory keeps a FREE record out of the window. -/
theorem registryKept : Obligations.RegistryKept := by
  unfold Obligations.RegistryKept
  rintro s t ⟨running, sound, counted⟩ h
  have sound' := step_directorySound h sound
  refine ⟨step_running running h, sound', ?_⟩
  have hs := State.directorySound_iff.1 sound
  have hc := (State.counted_iff hs.length).1 counted
  refine (State.counted_iff (State.directorySound_iff.1 sound').length).2 ?_
  rcases step_cases h with rfl | ⟨c, rest, -, row⟩
  · obtain ⟨records, -, -, -, window⟩ := s.ownStep_registry
    exact hc.of_window records window
  · have counted' : State.Counted { s with pending := rest } := hc.of_window rfl rfl
    exact (exec_moves row).counted counted' (State.running_iff.1 running).2.ascending
      ((State.directorySound_iff (s := { s with pending := rest })).1 sound)

end Sys2Proof.Machine

/-! The set built from a sound slot, and the proof that every step keeps the slots sound and the sets in agreement. -/

namespace Sys2Proof.Machine

/-! ### Building a set (R157 to R160) -/

theorem insertSetEntry_perm (x : SetEntry) (xs : List SetEntry) : (insertSetEntry x xs).Perm (x :: xs) := by
  induction xs with
  | nil => rfl
  | cons y ys ih =>
    unfold insertSetEntry
    split_ifs
    · rfl
    · exact (ih.cons y).trans (.swap x y ys)

/-- R158: an entry of a new index goes in at its place. -/
theorem insertSetEntry_ascending {x : SetEntry} {xs : List SetEntry} (h : (xs.map SetEntry.index).Pairwise (· < ·))
    (new : ∀ y ∈ xs, y.index ≠ x.index) : ((insertSetEntry x xs).map SetEntry.index).Pairwise (· < ·) := by
  induction xs with
  | nil => exact List.pairwise_singleton _ _
  | cons y ys ih =>
    obtain ⟨above, rest⟩ := List.pairwise_cons.1 h
    unfold insertSetEntry
    split_ifs with before
    · refine List.pairwise_cons.2 ⟨fun k mem => ?_, h⟩
      rcases List.mem_cons.1 mem with rfl | later
      · exact before
      · exact before.trans (above k later)
    · have after : y.index < x.index := by
        have := new y List.mem_cons_self
        omega
      refine List.pairwise_cons.2 ⟨fun k mem => ?_, ih rest fun z hz => new z (List.mem_cons_of_mem y hz)⟩
      rw [((insertSetEntry_perm x ys).map SetEntry.index).mem_iff, List.map_cons] at mem
      rcases List.mem_cons.1 mem with rfl | later
      · exact after
      · exact above k later

theorem foldl_insertSetEntry_perm (xs acc : List SetEntry) :
    (xs.foldl (fun acc x => insertSetEntry x acc) acc).Perm (acc ++ xs) := by
  induction xs generalizing acc with
  | nil => rw [List.append_nil]; rfl
  | cons x xs ih =>
    refine (ih _).trans (((insertSetEntry_perm x acc).append_right xs).trans ?_)
    exact List.perm_middle.symm

/-- R158: entries of new indices, one after another, go in at their places. -/
theorem foldl_insertSetEntry_ascending {xs acc : List SetEntry} (h : (acc.map SetEntry.index).Pairwise (· < ·))
    (distinct : ((acc ++ xs).map SetEntry.index).Nodup) :
    ((xs.foldl (fun acc x => insertSetEntry x acc) acc).map SetEntry.index).Pairwise (· < ·) := by
  induction xs generalizing acc with
  | nil => exact h
  | cons x xs ih =>
    have rest : ((insertSetEntry x acc ++ xs).map SetEntry.index).Nodup := by
      have perm : (insertSetEntry x acc ++ xs).Perm (acc ++ x :: xs) :=
        ((insertSetEntry_perm x acc).append_right xs).trans List.perm_middle.symm
      exact (perm.map SetEntry.index).nodup_iff.2 distinct
    refine ih (insertSetEntry_ascending h fun y hy same => ?_) rest
    rw [List.map_append, List.nodup_append] at distinct
    exact distinct.2.2 _ (List.mem_map_of_mem hy) _ (List.mem_map_of_mem List.mem_cons_self) same

/-- R159: the expected members without an entry. -/
theorem Slot.mem_absents {sl : Slot} {x : SetEntry} : x ∈ sl.absents ↔
    ∃ i id, x = .absent i id ∧ (i, id) ∈ sl.expected ∧ sl.hasEntry i = false := by
  simp only [Slot.absents, List.mem_map, List.mem_filter, Bool.not_eq_true', Prod.exists]
  constructor
  · rintro ⟨i, id, ⟨mem, none⟩, rfl⟩
    exact ⟨i, id, rfl, mem, none⟩
  · rintro ⟨i, id, rfl, mem, none⟩
    exact ⟨i, id, ⟨mem, none⟩, rfl⟩

/-- R158: a set's entries are the slot's and the ABSENT ones. -/
theorem Slot.setEntries_perm (sl : Slot) : sl.setEntries.Perm (sl.entries.map .present ++ sl.absents) :=
  foldl_insertSetEntry_perm _ _

theorem Slot.present_mem_setEntries {sl : Slot} {e : Entry} : .present e ∈ sl.setEntries ↔ e ∈ sl.entries := by
  rw [sl.setEntries_perm.mem_iff, List.mem_append, Slot.mem_absents]
  simp

theorem Slot.absent_mem_setEntries {sl : Slot} {i id : Nat} :
    .absent i id ∈ sl.setEntries ↔ (i, id) ∈ sl.expected ∧ sl.hasEntry i = false := by
  rw [sl.setEntries_perm.mem_iff, List.mem_append, Slot.mem_absents]
  simp

/-- R109 to R111, the part of a slot's soundness that does not look at its status. -/
structure Slot.Formed (rout : Nat) (sl : Slot) : Prop where
  entries : (sl.entries.map (·.index)).Pairwise (· < ·)
  expected : (sl.expected.map (·.1)).Pairwise (· < ·)
  extra : ∀ e ∈ sl.entries, e.extra = !sl.expects e.index
  snapshot : sl.expected.length ≤ sl.snapshot
  wait : 1000 ≤ sl.wait ∧ sl.wait ≤ waitCap rout
  deadline : sl.deadline = deadlineOf rout sl.epoch sl.wait

theorem Slot.sound_iff {rout : Nat} {sl : Slot} : sl.sound rout ↔ sl.Formed rout ∧
    (sl.status = .opened → sl.isComplete = false) ∧ (sl.status = .due .complete → sl.isComplete = true) := by
  constructor
  · rintro ⟨entries, expected, extra, snapshot, opened, complete, least, greatest, deadline⟩
    exact ⟨⟨entries, expected, extra, snapshot, ⟨least, greatest⟩, deadline⟩, opened, complete⟩
  · rintro ⟨⟨entries, expected, extra, snapshot, ⟨least, greatest⟩, deadline⟩, opened, complete⟩
    exact ⟨entries, expected, extra, snapshot, opened, complete, least, greatest, deadline⟩

theorem Slot.expects_iff {i : Nat} {sl : Slot} : sl.expects i = true ↔ ∃ m ∈ sl.expected, m.1 = i := by
  simp [Slot.expects]

/-- R158: the entries of a set ascend by index. -/
theorem Slot.Formed.setEntries_ascending {rout : Nat} {sl : Slot} (h : sl.Formed rout) :
    (sl.setEntries.map SetEntry.index).Pairwise (· < ·) := by
  have present : (sl.entries.map SetEntry.present).map SetEntry.index = sl.entries.map (·.index) := by
    simp [SetEntry.index]
  have absent : sl.absents.map SetEntry.index = (sl.expected.filter (fun m => !sl.hasEntry m.1)).map (·.1) := by
    simp [Slot.absents, SetEntry.index]
  refine foldl_insertSetEntry_ascending (present ▸ h.entries) ?_
  rw [List.map_append, present, absent]
  refine List.nodup_append.2 ⟨h.entries.imp Nat.ne_of_lt,
    (h.expected.sublist (List.filter_sublist.map _)).imp Nat.ne_of_lt, fun i hi j hj same => ?_⟩
  subst same
  obtain ⟨e, mem, index⟩ := List.mem_map.1 hi
  obtain ⟨m, unseen, index'⟩ := List.mem_map.1 hj
  have none : sl.hasEntry m.1 = false := by simpa using (List.mem_filter.1 unseen).2
  rw [index', Bool.eq_false_iff] at none
  exact none (Slot.hasEntry_iff.2 ⟨e, mem, index⟩)

/-- R160: the entries that are not EXTRA are those of the expected members. -/
theorem Slot.Formed.members {rout : Nat} {sl : Slot} (h : sl.Formed rout) :
    sl.entries.countP (fun e => !e.extra) = sl.expected.countP (fun m => sl.hasEntry m.1) := by
  have perm : ((sl.entries.filter (fun e => !e.extra)).map (·.index)).Perm
      ((sl.expected.filter (fun m => sl.hasEntry m.1)).map (·.1)) := by
    refine (List.perm_ext_iff_of_nodup ((h.entries.sublist (List.filter_sublist.map _)).imp Nat.ne_of_lt)
      ((h.expected.sublist (List.filter_sublist.map _)).imp Nat.ne_of_lt)).2 fun i => ?_
    simp only [List.mem_map, List.mem_filter]
    constructor
    · rintro ⟨e, ⟨mem, member⟩, rfl⟩
      rw [h.extra e mem, Bool.not_not] at member
      obtain ⟨m, expected, same⟩ := Slot.expects_iff.1 member
      exact ⟨m, ⟨expected, Slot.hasEntry_iff.2 ⟨e, mem, same.symm⟩⟩, same⟩
    · rintro ⟨m, ⟨expected, has⟩, rfl⟩
      obtain ⟨e, mem, same⟩ := Slot.hasEntry_iff.1 has
      refine ⟨e, ⟨mem, ?_⟩, same⟩
      rw [h.extra e mem, Bool.not_not, same]
      exact Slot.expects_iff.2 ⟨m, expected, rfl⟩
  rw [List.countP_eq_length_filter, List.countP_eq_length_filter]
  simpa using perm.length_eq

theorem Slot.length_absents (sl : Slot) : sl.absents.length = sl.expected.countP (fun m => !sl.hasEntry m.1) := by
  rw [Slot.absents, List.length_map, ← List.countP_eq_length_filter]

/-- What a count over the entries of a set is: over the slot's, and over the ABSENT ones. -/
theorem Slot.countP_setEntries (p : SetEntry → Bool) (sl : Slot) :
    sl.setEntries.countP p = sl.entries.countP (fun e => p (.present e)) + sl.absents.countP p := by
  rw [sl.setEntries_perm.countP_eq, List.countP_append, List.countP_map]
  rfl

theorem Slot.countP_absents_none {p : SetEntry → Bool} (h : ∀ i id, p (.absent i id) = false) (sl : Slot) :
    sl.absents.countP p = 0 := by
  refine List.countP_eq_zero.2 fun x mem => ?_
  obtain ⟨i, id, rfl, -⟩ := Slot.mem_absents.1 mem
  simp [h]

theorem Slot.countP_absents_all {p : SetEntry → Bool} (h : ∀ i id, p (.absent i id) = true) (sl : Slot) :
    sl.absents.countP p = sl.absents.length := by
  refine List.countP_eq_length.2 fun x mem => ?_
  obtain ⟨i, id, rfl, -⟩ := Slot.mem_absents.1 mem
  exact h i id

/-- R158 to R160: the set of a sound slot that is DUE agrees with its header. -/
theorem Slot.sound.buildSet_agrees {rout : Nat} {sl : Slot} (h : sl.sound rout) (due : sl.status ≠ .opened) :
    (buildSet rout sl).agrees := by
  obtain ⟨formed, -, complete⟩ := Slot.sound_iff.1 h
  have absent : sl.setEntries.countP SetEntry.isAbsent = sl.absents.length := by
    rw [Slot.countP_setEntries, Slot.countP_absents_all (fun _ _ => rfl)]
    simp [SetEntry.isAbsent]
  have split := List.length_eq_countP_add_countP (fun m => sl.hasEntry m.1) (l := sl.expected)
  have entries := List.length_eq_countP_add_countP (fun e => e.extra) (l := sl.entries)
  have length : sl.setEntries.length = sl.entries.length + sl.absents.length := by
    rw [sl.setEntries_perm.length_eq, List.length_append, List.length_map]
  have members := formed.members
  have absents := sl.length_absents
  simp only [Bool.not_eq_true, Bool.decide_eq_false] at split entries
  refine ⟨formed.setEntries_ascending, rfl, ?_, ?_, ?_, ?_, fun cause => ?_⟩
  · show sl.entries.countP _ = sl.setEntries.countP _
    rw [Slot.countP_setEntries, Slot.countP_absents_none (fun _ _ => rfl)]
    rfl
  · show sl.entries.countP _ = sl.setEntries.countP _
    rw [Slot.countP_setEntries, Slot.countP_absents_none (fun _ _ => rfl)]
    rfl
  · show sl.setEntries.countP _ + sl.entries.countP _ = sl.expected.length
    omega
  · show sl.setEntries.length = sl.expected.length + sl.entries.countP _
    omega
  · show sl.setEntries.countP _ = 0
    have status : sl.status = .due .complete := by
      have cause' : sl.cause = .complete := cause
      unfold Slot.cause at cause'
      split at cause'
      next c is_due => rw [is_due, cause']
      next opened => exact absurd opened due
    have all_seen := complete status
    rw [Slot.isComplete, Bool.and_eq_true, List.all_eq_true] at all_seen
    rw [absent, absents]
    exact List.countP_eq_zero.2 fun m mem => by simp [all_seen.2 m mem]

/-- Settles O33. -/
theorem setsAgreeWithTheirSlots : Obligations.SetsAgreeWithTheirSlots := by
  unfold Obligations.SetsAgreeWithTheirSlots
  rintro rout sl cause sound status _ rfl
  have due : sl.status ≠ .opened := by rw [status]; nofun
  refine ⟨rfl, rfl, ?_, rfl, rfl, rfl, sound.buildSet_agrees due, fun e => Slot.present_mem_setEntries,
    fun i id => Slot.absent_mem_setEntries⟩
  show sl.cause = cause
  rw [Slot.cause, status]

/-! ### What keeps a slot sound -/

/-- R124: a release of a slot, with COMPLETE of one that is complete. -/
theorem Slot.sound.release {rout : Nat} {sl : Slot} (h : sl.sound rout) {c : ReleaseCause}
    (complete : c = .complete → sl.isComplete = true) : (sl.release c).sound rout := by
  by_cases opened : sl.status = .opened
  · obtain ⟨formed, -, -⟩ := Slot.sound_iff.1 h
    rw [Slot.release_opened c opened]
    refine Slot.sound_iff.2 ⟨⟨formed.1, formed.2, formed.3, formed.4, formed.5, formed.6⟩, nofun, fun status => ?_⟩
    exact complete (SlotStatus.due.inj status)
  · rwa [Slot.release_due c opened]

/-- R121: an OPEN slot, tested. -/
theorem Slot.Formed.testComplete {rout : Nat} {sl : Slot} (h : sl.Formed rout) (opened : sl.status = .opened) :
    sl.testComplete.sound rout := by
  unfold Slot.testComplete
  split_ifs with complete
  · rw [Slot.release_opened _ opened]
    exact Slot.sound_iff.2 ⟨⟨h.1, h.2, h.3, h.4, h.5, h.6⟩, nofun, fun _ => complete⟩
  · exact Slot.sound_iff.2 ⟨h, fun _ => Bool.eq_false_iff.2 complete, fun status => by rw [opened] at status; cases status⟩

theorem Slot.sound.expire {rout : Nat} {sl : Slot} (h : sl.sound rout) (now : LocalTime) : (sl.expire now).sound rout := by
  unfold Slot.expire
  split_ifs
  · exact h.release nofun
  · exact h

theorem Slot.sound.expireIf {rout : Nat} {sl : Slot} (h : sl.sound rout) (e : Epoch) (now : LocalTime) :
    (sl.expireIf e now).sound rout := by
  unfold Slot.expireIf
  split_ifs
  · exact h.release nofun
  · exact h

/-- R110, R123: the index that leaves the expected set has no entry, so no entry becomes EXTRA. -/
theorem Slot.sound.dropExpected {rout : Nat} {sl : Slot} (h : sl.sound rout) (i : Nat) : (sl.dropExpected i).sound rout := by
  obtain ⟨formed, -, -⟩ := Slot.sound_iff.1 h
  unfold Slot.dropExpected
  split_ifs with leaves
  · obtain ⟨opened, -, none⟩ := leaves
    refine Slot.Formed.testComplete ⟨formed.entries, formed.expected.sublist (List.filter_sublist.map _), fun e mem => ?_,
      (List.length_filter_le _ _).trans formed.snapshot, formed.wait, formed.deadline⟩ opened
    have other : e.index ≠ i := fun same => Bool.eq_false_iff.1 none (Slot.hasEntry_iff.2 ⟨e, mem, same⟩)
    rw [formed.extra e mem, Bool.not_inj_iff, Bool.eq_iff_iff, Slot.expects_iff, Slot.expects_iff]
    simp only [List.mem_filter, bne_iff_ne]
    constructor
    · rintro ⟨m, expected, same⟩
      exact ⟨m, ⟨expected, same ▸ other⟩, same⟩
    · rintro ⟨m, ⟨expected, -⟩, same⟩
      exact ⟨m, expected, same⟩
  · exact h

theorem Slot.sound.foldl_dropExpected {rout : Nat} {sl : Slot} (h : sl.sound rout) (fell : List Nat) :
    (fell.foldl (fun acc i => Slot.dropExpected i acc) sl).sound rout := by
  induction fell generalizing sl with
  | nil => exact h
  | cons i fell ih => exact ih (h.dropExpected i)

/-- R111, R117, R160: the entry of a frame joins an OPEN slot that has none of its record. -/
theorem Slot.sound.place {rout : Nat} {sl : Slot} (h : sl.sound rout) (opened : sl.status = .opened) {i : Nat}
    (new : sl.hasEntry i = false) (r : Record) (al : Aligned) : (sl.place i r al).sound rout := by
  obtain ⟨formed, -, -⟩ := Slot.sound_iff.1 h
  have distinct (e : Entry) (mem : e ∈ sl.entries) : e.index ≠ i :=
    fun same => Bool.eq_false_iff.1 new (Slot.hasEntry_iff.2 ⟨e, mem, same⟩)
  refine Slot.Formed.testComplete ⟨insertEntry_ascending formed.entries distinct, formed.expected, fun e mem => ?_,
    formed.snapshot, formed.wait, formed.deadline⟩ opened
  rcases List.mem_cons.1 ((insertEntry_perm _ _).mem_iff.1 mem) with rfl | old
  · rfl
  · exact formed.extra e old

/-- R113, R121: a slot that opens is not complete. -/
theorem State.newSlot_sound {s : State} (settings : s.settings.valid) (e : Epoch) :
    (s.newSlot e).sound s.settings.rout := by
  refine Slot.sound_iff.2 ⟨⟨.nil, s.expectedSet_ascending e.k, nofun, le_rfl,
    ⟨State.le_waitNow settings, s.waitNow_le_waitCap⟩, rfl⟩, fun _ => ?_, nofun⟩
  unfold Slot.isComplete
  cases expected : s.expectedSet e.k with
  | nil => simp [State.newSlot, expected]
  | cons m ms => simp [State.newSlot, expected, Slot.hasEntry]

/-! ### What keeps the slots and the sets of a state sound -/

/-- Every slot of the window and of an emission is sound, the latter DUE, and every set agrees with its header. -/
structure State.Sound (s : State) : Prop where
  window : ∀ sl ∈ s.window, sl.sound s.settings.rout
  emission : ∀ sl ∈ s.emission, sl.sound s.settings.rout ∧ sl.status ≠ .opened
  egress : ∀ a ∈ s.egress, a.agrees

theorem State.slotsSound_iff {s : State} : s.SlotsSound ↔ s.Running ∧ s.Sound := by
  refine and_congr_right fun _ => ⟨fun ⟨slots, due, egress⟩ => ?_, fun ⟨window, emission, egress⟩ => ?_⟩
  · refine ⟨fun sl mem => slots sl (List.mem_append_right _ mem), fun sl mem => ⟨slots sl ?_, due sl mem⟩, egress⟩
    exact List.mem_append_left _ (Option.mem_toList.2 mem)
  · refine ⟨fun sl mem => ?_, fun sl mem => (emission sl mem).2, egress⟩
    rcases List.mem_append.1 mem with emitting | waiting
    · exact (emission sl (Option.mem_toList.1 emitting)).1
    · exact window sl waiting

theorem State.Sound.of_same {s t : State} (h : s.Sound) (window : t.window = s.window) (emission : t.emission = s.emission)
    (egress : t.egress = s.egress) (settings : t.settings = s.settings) : t.Sound :=
  ⟨by rw [window, settings]; exact h.window, by rw [emission, settings]; exact h.emission, egress ▸ h.egress⟩

theorem State.Sound.mapWindow {s t : State} (h : s.Sound) {f : Slot → Slot}
    (sound : ∀ sl : Slot, sl.sound s.settings.rout → (f sl).sound s.settings.rout) (window : t.window = s.window.map f)
    (emission : t.emission = s.emission := by rfl) (egress : t.egress = s.egress := by rfl)
    (settings : t.settings = s.settings := by rfl) : t.Sound := by
  refine ⟨?_, by rw [emission, settings]; exact h.emission, egress ▸ h.egress⟩
  rw [window, settings]
  exact List.forall_mem_map.2 fun sl mem => sound sl (h.window sl mem)

theorem State.Sound.beginEmission {s : State} (h : s.Sound) : s.beginEmission.Sound := by
  rcases s.beginEmission_cases with same | ⟨sl, rest, hw, due, -, taken⟩
  · rwa [same]
  · rw [taken]
    have window := h.window
    rw [hw] at window
    refine ⟨fun sl' mem => window sl' (List.mem_cons_of_mem sl mem), fun sl' mem => ?_, h.egress⟩
    cases mem
    exact ⟨window sl List.mem_cons_self, due⟩

theorem State.Sound.makeRoom {s : State} (h : s.Sound) : s.makeRoom.Sound := by
  rcases s.makeRoom_cases with same | same | ⟨sl, rest, hw, -, same⟩ <;> rw [same]
  · exact h
  · exact h.beginEmission
  · have window := h.window
    rw [hw] at window
    refine State.Sound.beginEmission ⟨fun sl' mem => ?_, h.emission, h.egress⟩
    rcases List.mem_cons.1 mem with rfl | later
    · exact (window sl List.mem_cons_self).release nofun
    · exact window sl' (List.mem_cons_of_mem sl later)

theorem State.Sound.beforeOpening {s : State} (h : s.Sound) (k : Nat) : (s.beforeOpening k).Sound := by
  obtain ⟨fell, window, emission, -⟩ := s.beforeOpening_window k
  have outside := s.beforeOpening_outside k
  exact h.mapWindow (fun sl sound => sound.foldl_dropExpected fell) window emission (congrArg State.egress outside :)
    (congrArg State.settings outside :)

theorem State.Sound.tick {s : State} (h : s.Sound) (valid : s.settings.valid) (e : Epoch) : (s.tick e).Sound := by
  dsimp only [State.tick]
  have roomy := h.makeRoom
  have outside := s.makeRoom_outside
  split_ifs
  · have opening := roomy.beforeOpening e.k
    have settings : (s.makeRoom.beforeOpening e.k).settings = s.settings :=
      (congrArg State.settings ((State.beforeOpening_outside e.k _).trans outside) :)
    refine State.Sound.beginEmission ⟨fun sl mem => ?_, opening.emission, opening.egress⟩
    rcases List.mem_append.1 mem with older | new
    · exact opening.window sl older
    · rw [List.mem_singleton.1 new]
      exact (State.newSlot_sound (settings ▸ valid) e).expire _
  · exact roomy.of_same (by simp) (by simp) (by simp) (by simp)

theorem State.Sound.tickReached {s : State} (h : s.Sound) (valid : s.settings.valid) : s.tickReached.Sound := by
  unfold State.tickReached
  split
  · exact h
  · dsimp only
    split_ifs
    · exact State.Sound.tick (h.of_same (by simp) (by simp) (by simp) (by simp)) (by simpa using valid) _
    · exact h

theorem State.Sound.stepTime {s : State} (h : s.Sound) (valid : s.settings.valid) (t : LocalTime) :
    (s.stepTime t).Sound := by
  unfold State.stepTime
  split_ifs
  · refine State.Sound.tickReached (State.Sound.beginEmission ?_) (by simpa using valid)
    exact h.mapWindow (f := Slot.expire t) (fun sl sound => sound.expire t) rfl
  · exact h.of_same rfl rfl rfl rfl

theorem State.Sound.takeFrame {s : State} (h : s.Sound) : s.takeFrame.Sound :=
  h.of_same (by simp) (by simp) (by simp) (by simp)

/-- R117: the one slot that a PLACED frame joins is OPEN and has no entry of its record. -/
theorem State.Sound.placeEntry {s : State} (h : s.Sound) (ascending : s.slotKeys.Pairwise (· < ·)) {i : Nat} {al : Aligned}
    {sl : Slot} (found : s.window.find? (Slot.openFor s.settings.rout (al.epoch.key s.settings.rout)) = some sl)
    (new : sl.hasEntry i = false) (r : Record) : (s.placeEntry i r al).Sound := by
  obtain ⟨before, after, split, joins, others⟩ := State.window_split ascending found
  refine ⟨List.forall_mem_map.2 fun sl' mem => ?_, h.emission, h.egress⟩
  have sound := h.window sl' mem
  by_cases same : sl'.openFor s.settings.rout (al.epoch.key s.settings.rout) = true
  · have here : sl' = sl := by
      rw [split, List.mem_append, List.mem_cons] at mem
      rcases mem with earlier | rfl | later
      · exact absurd same (by simp [others sl' (List.mem_append_left _ earlier)])
      · rfl
      · exact absurd same (by simp [others sl' (List.mem_append_right _ later)])
    subst here
    rw [if_pos same]
    exact sound.place (Slot.openFor_iff.1 same).2 new r al
  · rw [if_neg same]
    exact sound

theorem State.Sound.endHandling {s : State} (h : s.Sound) (ascending : s.slotKeys.Pairwise (· < ·)) :
    s.endHandling.Sound := by
  rcases s.endHandling_cases with ⟨-, same⟩ | ⟨f, -, same⟩ <;> rw [same]
  · exact h
  · cases hd : s.dispose f
    case placed i al =>
      obtain ⟨sl, found, new⟩ := State.dispose_placed hd
      refine State.Sound.beginEmission ?_
      refine State.Sound.placeEntry ?_ ?_ ?_ new _
      · exact h.of_same rfl rfl rfl rfl
      · exact ascending
      · exact found
    all_goals exact h.of_same rfl rfl rfl rfl

theorem State.Sound.leaveActive {s : State} (h : s.Sound) (i : Nat) : (s.leaveActive i).Sound :=
  h.mapWindow (f := Slot.dropExpected i) (fun _ sound => sound.dropExpected i) rfl

theorem State.Sound.moveRecord {s : State} (h : s.Sound) (i : Nat) (r : Record) : (s.moveRecord i r).Sound := by
  unfold State.moveRecord
  split_ifs
  · refine State.Sound.beginEmission ?_
    exact (h.leaveActive i).of_same rfl rfl rfl rfl
  · exact h.of_same rfl rfl rfl rfl

theorem State.Sound.drain {s : State} (h : s.Sound) : s.drain.Sound := by
  unfold State.drain
  split_ifs
  · exact h.of_same (by simp) (by simp) (by simp) (by simp)
  · exact h

theorem State.Sound.flush {s : State} (h : s.Sound) : s.flush.Sound := by
  unfold State.flush
  split_ifs
  · exact h
  · refine State.Sound.of_same ?_ (State.endDrain_window _) (State.endDrain_emission _) (State.endDrain_egress _)
      (State.endDrain_settings _)
    refine State.Sound.beginEmission ?_
    exact h.mapWindow (f := Slot.release .flush) (fun _ sound => sound.release nofun) rfl

/-- R151: what stays in the buffer was there. -/
theorem State.Sound.resetEngine {s : State} (h : s.Sound) : s.resetEngine.Sound := by
  have egress : s.resetEngine.egress = if s.transmitting then s.egress.take 1 else [] :=
    (congrArg State.egress s.resetEngine_outside :)
  refine ⟨nofun, nofun, fun a mem => ?_⟩
  rw [egress] at mem
  split_ifs at mem
  · exact h.egress a (List.mem_of_mem_take mem)
  · cases mem

/-- R145: the set of the emission in flight agrees with its header. -/
theorem State.Sound.placed {s : State} (h : s.Sound) {sl : Slot} (emitting : s.emission = some sl) :
    (s.placed sl).Sound := by
  obtain ⟨sound, due⟩ := h.emission sl emitting
  refine ⟨h.window, nofun, fun a mem => ?_⟩
  rcases List.mem_append.1 mem with older | new
  · exact h.egress a older
  · exact List.mem_singleton.1 new ▸ sound.buildSet_agrees due

/-! ### Commands and rows -/

theorem Message.Effect.sound {m : Message} {s u : State} (h : m.Effect s u) (hs : s.Sound) (running : s.Running) :
    u.Sound := by
  cases h
  case configured stopped _ _ _ =>
    obtain ⟨window, emission⟩ := running.2.1.1 stopped
    refine ⟨?_, ?_, hs.egress⟩
    · show ∀ sl ∈ s.window, _
      rw [window]
      exact nofun
    · show ∀ sl ∈ s.emission, _
      rw [emission]
      exact nofun
  case drained => exact hs.drain.of_same rfl rfl rfl rfl
  case flushed => exact hs.flush.of_same rfl rfl rfl rfl
  case engineReset => exact hs.resetEngine.of_same rfl rfl rfl rfl
  case suspended i _ => exact (hs.moveRecord i _).of_same rfl rfl rfl rfl
  case restarted i _ => exact (hs.moveRecord i _).of_same rfl rfl rfl rfl
  all_goals exact hs.of_same rfl rfl rfl rfl

theorem State.Moves.sound {s t : State} {c : Instr} (h : s.Moves c t) (hs : s.Sound) (running : s.Running) : t.Sound := by
  obtain ⟨⟨-, -, valid⟩, -, ⟨ascending, -, -⟩⟩ := id running
  cases h
  case powerOn => exact ⟨nofun, nofun, nofun⟩
  case edge => exact hs.of_same (by simp) (by simp) (by simp) (by simp)
  case edgeSteps =>
    refine State.Sound.stepTime ?_ (by simpa using valid) _
    exact hs.of_same (by simp) (by simp) (by simp) (by simp)
  case timedOut => exact hs.of_same (by simp) (by simp) (by simp) (by simp)
  case edgeMissed => exact hs.of_same (by simp) (by simp) (by simp) (by simp)
  case ticked e _ _ _ =>
    refine State.Sound.tick ?_ ?_ e
    · exact hs.of_same rfl rfl rfl rfl
    · exact valid
  case expired e =>
    refine State.Sound.beginEmission ?_
    exact hs.mapWindow (f := Slot.expireIf e s.time) (fun _ sound => sound.expireIf e s.time) rfl
  case frameJoined => exact hs.of_same (by simp) (by simp) (by simp) (by simp)
  case frameHandled =>
    have ascending' : s.takeFrame.slotKeys.Pairwise (· < ·) := (State.SameRun.takeFrame s).keys ▸ ascending
    exact (hs.takeFrame.endHandling ascending').takeFrame
  case inserted => exact hs.of_same (by simp) (by simp) (by simp) (by simp)
  case removed i _ _ _ =>
    refine State.Sound.takeFrame (State.Sound.beginEmission ?_)
    dsimp only [State.setRecord]
    split_ifs
    · exact (hs.leaveActive i).of_same rfl rfl rfl rfl
    · exact hs.of_same rfl rfl rfl rfl
  case emissionBegan => exact hs.beginEmission
  case emissionCompleted sl emitting =>
    exact (hs.placed emitting).beginEmission.of_same ((State.endDrain_window _).trans (State.beginTransmission_window _))
      ((State.endDrain_emission _).trans (State.beginTransmission_emission _))
      ((State.endDrain_egress _).trans (State.beginTransmission_egress _))
      ((State.endDrain_settings _).trans (State.beginTransmission_settings _))
  case transmissionBegan => exact hs.of_same (by simp) (by simp) (by simp) (by simp)
  case transmissionCompleted =>
    refine State.Sound.of_same ?_ (State.beginTransmission_window _) (State.beginTransmission_emission _)
      (State.beginTransmission_egress _) (State.beginTransmission_settings _)
    refine State.Sound.beginEmission ?_
    exact ⟨hs.window, hs.emission, fun a mem => hs.egress a (List.mem_of_mem_drop mem)⟩
  case readyAsserted => exact hs.of_same (by simp) (by simp) (by simp) (by simp)
  case starts m u before after rest queue _ effect _ =>
    have sound := effect.sound (hs.of_same rfl rfl rfl rfl) running
    exact sound.of_same rfl rfl rfl rfl
  all_goals exact hs.of_same rfl rfl rfl rfl

/-- Settles O59: an entry joins only the one OPEN slot of its epoch, an index leaves the expected set only without an
entry, and a slot that is emitted is DUE, so its set agrees with its header. -/
theorem slotsKept : Obligations.SlotsKept := by
  unfold Obligations.SlotsKept
  intro s t hs h
  obtain ⟨running, sound⟩ := State.slotsSound_iff.1 hs
  refine State.slotsSound_iff.2 ⟨step_running running h, ?_⟩
  rcases step_cases h with rfl | ⟨c, rest, -, row⟩
  · rcases s.ownStep_cases with same | ⟨pending, same⟩ <;> rw [same]
    · exact sound
    · exact sound.of_same rfl rfl rfl rfl
  · have sound' : State.Sound { s with pending := rest } := sound.of_same rfl rfl rfl rfl
    exact (exec_moves row).sound sound' running

end Sys2Proof.Machine

/-! The rows of the timebase, the rows without their event, and the step on an empty queue. -/

namespace Sys2Proof.Machine

/-- Settles O1. -/
theorem stepRunsFrontCommand : Obligations.StepRunsFrontCommand := by
  unfold Obligations.StepRunsFrontCommand
  intro c rest s
  rfl

/-- Settles O6. -/
theorem releaseReachesReset : Obligations.ReleaseReachesReset := by
  unfold Obligations.ReleaseReachesReset
  exact ⟨fun s => rfl, fun s => ⟨_, rfl, rfl, rfl, rfl⟩⟩

/-! ### Edges of PPS (R33 to R43) -/

/-- R33: an edge that does not step local time. -/
theorem exec_ppsEdge_keeps {s : State} (released : s.resetAsserted = false) {b : Timebase}
    (judged : s.tb.applyStaged.judge s.time = (b, false)) :
    exec .ppsEdge s = .next (s.setTimebase (b.capture s.time)) := by
  show execPpsEdge s = _
  simp only [execPpsEdge, released, judged, Bool.false_eq_true, if_false]

/-- R33, R43: an edge that steps local time. -/
theorem exec_ppsEdge_steps {s : State} (released : s.resetAsserted = false) {b : Timebase}
    (judged : s.tb.applyStaged.judge s.time = (b, true)) :
    exec .ppsEdge s = .next (State.stepTime (s.tb.stepTarget s.time)
      (s.setTimebase { b.capture s.time with armed := none })) := by
  show execPpsEdge s = _
  simp only [execPpsEdge, released, judged, Bool.false_eq_true, if_false, if_true, Timebase.stepTarget_applyStaged]

theorem Timebase.judge_free {b : Timebase} (t : LocalTime) (h : b.state = .free) :
    b.judge t = ({ b with state := .acquiring, good := 0 }, false) := by
  simp only [Timebase.judge, h]

theorem Timebase.judge_acquiring {b : Timebase} (t : LocalTime) (h : b.state = .acquiring) : b.judge t =
    if b.goodInterval then
      if b.good = 1 then ({ b with state := .locked, good := 2, bad := 0 }, true)
      else ({ b with good := b.good + 1 }, false)
    else ({ b with good := 0 }, false) := by
  simp only [Timebase.judge, h, Nat.reduceEqDiff]

theorem Timebase.judge_locked {b : Timebase} (t : LocalTime) (h : b.state = .locked) : b.judge t =
    if b.goodInterval = true ∧ (phaseError t.ns).natAbs ≤ b.inForce.stepLimit then ({ b with bad := 0 }, true)
    else if b.bad = 1 then ({ b with state := .acquiring, good := 0, bad := 0 }, false)
    else ({ b with bad := b.bad + 1 }, false) := by
  simp only [Timebase.judge, h, Nat.reduceEqDiff]

theorem Timebase.judge_holdover {b : Timebase} (t : LocalTime) (h : b.state = .holdover) : b.judge t =
    if (phaseError t.ns).natAbs ≤ 10000 then ({ b with state := .locked, bad := 0, inHoldover := 0 }, true)
    else ({ b with state := .acquiring, good := 0, inHoldover := 0 }, false) := by
  simp only [Timebase.judge, h]
  rfl

/-- Settles O8: in each state the edge is judged by its interval and phase, and TB_STATE is raised where the state moves. -/
theorem edgesWithoutStep : Obligations.EdgesWithoutStep := by
  unfold Obligations.EdgesWithoutStep
  intro s
  refine ⟨fun held => if_pos held, fun released => ⟨fun free => ?_, fun acquiring bad => ?_, fun acquiring good first => ?_,
    fun locked off => ⟨fun first => ?_, fun second => ?_⟩, fun holdover far => ?_⟩⟩
  · rw [exec_ppsEdge_keeps released (Timebase.judge_free s.time free)]
    exact congrArg _ (State.setTimebase_moved (by rw [free]; nofun))
  · have judged : s.tb.applyStaged.judge s.time = _ := Timebase.judge_acquiring s.time acquiring
    rw [bad, if_neg Bool.false_ne_true] at judged
    rw [exec_ppsEdge_keeps released judged]
    exact congrArg _ (State.setTimebase_same rfl)
  · have judged : s.tb.applyStaged.judge s.time = _ := Timebase.judge_acquiring s.time acquiring
    rw [good, if_pos rfl, Timebase.applyStaged_good, if_neg first] at judged
    rw [exec_ppsEdge_keeps released judged]
    exact congrArg _ (State.setTimebase_same rfl)
  · have judged : s.tb.applyStaged.judge s.time = _ := Timebase.judge_locked s.time locked
    have unlike : ¬ (s.tb.applyStaged.goodInterval = true ∧
        (phaseError s.time.ns).natAbs ≤ s.tb.applyStaged.inForce.stepLimit) := by
      rintro ⟨good, near⟩
      exact off.elim (fun bad => by simp [good] at bad) (Nat.not_lt.2 near)
    rw [if_neg unlike, Timebase.applyStaged_bad, if_neg first] at judged
    rw [exec_ppsEdge_keeps released judged]
    exact congrArg _ (State.setTimebase_same rfl)
  · have judged : s.tb.applyStaged.judge s.time = _ := Timebase.judge_locked s.time locked
    have unlike : ¬ (s.tb.applyStaged.goodInterval = true ∧
        (phaseError s.time.ns).natAbs ≤ s.tb.applyStaged.inForce.stepLimit) := by
      rintro ⟨good, near⟩
      exact off.elim (fun bad => by simp [good] at bad) (Nat.not_lt.2 near)
    rw [if_neg unlike, Timebase.applyStaged_bad, if_pos second] at judged
    rw [exec_ppsEdge_keeps released judged]
    exact congrArg _ (State.setTimebase_moved (by rw [locked]; nofun))
  · have judged : s.tb.applyStaged.judge s.time = _ := Timebase.judge_holdover s.time holdover
    rw [if_neg (Nat.not_le.2 far)] at judged
    rw [exec_ppsEdge_keeps released judged]
    exact congrArg _ (State.setTimebase_moved (by rw [holdover]; nofun))

/-- Settles O9. -/
theorem edgesThatStep : Obligations.EdgesThatStep := by
  unfold Obligations.EdgesThatStep
  intro s released
  refine ⟨rfl, fun acquiring good second => ?_, fun locked good near => ?_, fun holdover near => ?_⟩
  · have judged : s.tb.applyStaged.judge s.time = _ := Timebase.judge_acquiring s.time acquiring
    rw [good, if_pos rfl, Timebase.applyStaged_good, if_pos second] at judged
    rw [exec_ppsEdge_steps released judged]
    exact congrArg (fun u => Host.Outcome.next (State.stepTime (s.tb.stepTarget s.time) u))
      (State.setTimebase_moved (by rw [acquiring]; nofun))
  · have judged : s.tb.applyStaged.judge s.time = _ := Timebase.judge_locked s.time locked
    rw [if_pos ⟨good, near⟩] at judged
    rw [exec_ppsEdge_steps released judged]
    exact congrArg (fun u => Host.Outcome.next (State.stepTime (s.tb.stepTarget s.time) u)) (State.setTimebase_same rfl)
  · have judged : s.tb.applyStaged.judge s.time = _ := Timebase.judge_holdover s.time holdover
    rw [if_pos near] at judged
    rw [exec_ppsEdge_steps released judged]
    exact congrArg (fun u => Host.Outcome.next (State.stepTime (s.tb.stepTarget s.time) u))
      (State.setTimebase_moved (by rw [holdover]; nofun))

/-! ### Timeouts (R37, R39, R40) -/

theorem Timebase.acquireExpired_iff {b : Timebase} :
    b.acquireExpired = true ↔ b.state = .acquiring ∧ 3000000000 ≤ b.sinceCapture * 8 := by
  rw [Timebase.acquireExpired, Bool.and_eq_true, beq_iff_eq]
  exact and_congr_right fun _ => decide_eq_true_iff

theorem Timebase.edgeMissing_iff {b : Timebase} :
    b.edgeMissing = true ↔ b.state = .locked ∧ 1500000000 ≤ b.sinceCapture * 8 := by
  rw [Timebase.edgeMissing, Bool.and_eq_true, beq_iff_eq]
  exact and_congr_right fun _ => decide_eq_true_iff

theorem Timebase.holdoverOver_iff {b : Timebase} : b.holdoverOver = true ↔
    b.state = .holdover ∧ b.inForce.holdoverLimit * 1000000000 ≤ b.inHoldover * 8 := by
  rw [Timebase.holdoverOver, Bool.and_eq_true, beq_iff_eq]
  exact and_congr_right fun _ => decide_eq_true_iff

/-- Settles O10. -/
theorem timeoutsMoveTheTimebase : Obligations.TimeoutsMoveTheTimebase := by
  unfold Obligations.TimeoutsMoveTheTimebase
  intro s
  refine ⟨fun acquiring elapsed => ?_, fun locked elapsed => ?_, fun holdover elapsed => ?_⟩
  · have row : exec .acquireTimeout s = .next (s.setTimebase s.tb.enterFree) :=
      if_pos (Timebase.acquireExpired_iff.2 ⟨acquiring, elapsed⟩)
    rw [row]
    exact congrArg _ (State.setTimebase_moved (by rw [acquiring]; nofun))
  · have row : exec .missingEdgeLimit s = .next (s.setTimebase { s.tb with state := .holdover, inHoldover := 0 }) :=
      if_pos (Timebase.edgeMissing_iff.2 ⟨locked, elapsed⟩)
    rw [row]
    exact congrArg _ (State.setTimebase_moved (by rw [locked]; nofun))
  · have row : exec .holdoverLimit s = .next (s.setTimebase s.tb.enterFree) :=
      if_pos (Timebase.holdoverOver_iff.2 ⟨holdover, elapsed⟩)
    rw [row]
    exact congrArg _ (State.setTimebase_moved (by rw [holdover]; nofun))

/-! ### Rows without their event (log 1) -/

theorem execEpochTick_none {s : State} (h : ∀ e, s.nextEpoch = some e →
    ¬ (s.run = .running ∧ (e.instant s.settings.rout).atOrBefore s.time)) : execEpochTick s = .next s := by
  unfold execEpochTick
  split
  · rfl
  next e next => exact if_neg (h e next)

theorem Slot.dueAt_iff {e : Epoch} {now : LocalTime} {sl : Slot} :
    sl.dueAt e now = true ↔ sl.epoch = e ∧ sl.status = .opened ∧ sl.deadline.atOrBefore now := by
  simp only [Slot.dueAt, Bool.and_eq_true, beq_iff_eq, decide_eq_true_eq, and_assoc]

theorem State.editInFlight_iff {s : State} : s.editInFlight = true ↔ ∃ kind tag edit, s.port = .editing kind tag edit := by
  unfold State.editInFlight
  split
  next kind tag edit port => exact iff_of_true rfl ⟨kind, tag, edit, port⟩
  next port => exact iff_of_false nofun (by rw [port]; rintro ⟨_, _, _, h⟩; cases h)
  next port => exact iff_of_false nofun (by rw [port]; rintro ⟨_, _, _, h⟩; cases h)

/-- R54: with no frame taken and none to take, the row of a handling finds nothing. -/
theorem execFrameHandling_none {s : State} (idle : s.handling = none) (nothing : s.fifo = [] ∨ s.editInFlight = true) :
    execFrameHandling s = .next s := by
  have taken : s.takeFrame = s := State.takeFrame_none (nothing.imp id .inr)
  have ended : s.endHandling = s := by
    rcases s.endHandling_cases with ⟨-, same⟩ | ⟨f, some, -⟩
    · exact same
    · rw [idle] at some
      cases some
  rw [execFrameHandling, taken, ended, taken]

theorem execInsertionEditCompletion_none {s : State}
    (h : (∀ kind tag i g, s.port ≠ .editing kind tag (.insertion i g)) ∨ s.handling ≠ none) :
    execInsertionEditCompletion s = .next s := by
  unfold execInsertionEditCompletion
  split
  next kind tag i g port => exact if_neg fun idle => h.elim (fun none => none kind tag i g port) (fun busy => busy idle)
  all_goals rfl

theorem execRemovalEditCompletion_none {s : State}
    (h : (∀ kind tag id i, s.port ≠ .editing kind tag (.removal id i)) ∨ s.handling ≠ none) :
    execRemovalEditCompletion s = .next s := by
  unfold execRemovalEditCompletion
  split
  next kind tag id i port => exact if_neg fun idle => h.elim (fun none => none kind tag id i port) (fun busy => busy idle)
  all_goals rfl

theorem execAnswerSent_none {s : State} (h : ∀ a, s.port ≠ .answering a) : execAnswerSent s = .next s := by
  unfold execAnswerSent
  split
  next a port => exact absurd port (h a)
  all_goals rfl

/-- Settles O4. -/
theorem rowsWithoutTheirEvent : Obligations.RowsWithoutTheirEvent := by
  unfold Obligations.RowsWithoutTheirEvent
  intro s
  refine ⟨fun e none => execEpochTick_none fun e' next due => ?_, fun e none => if_neg fun due => ?_,
    execFrameHandling_none, execInsertionEditCompletion_none, execRemovalEditCompletion_none, fun none => ?_,
    fun paused => if_neg fun sending => ?_, execAnswerSent_none, fun none => if_neg fun expired => ?_,
    fun none => if_neg fun missing => ?_, fun none => if_neg fun ended => ?_⟩
  · rcases none with none | stopped | ⟨next', early⟩
    · rw [none] at next
      cases next
    · exact stopped due.1
    · cases next.symm.trans next'
      exact early due.2
  · obtain ⟨sl, mem, due⟩ := List.any_eq_true.1 due
    obtain ⟨epoch, opened, reached⟩ := Slot.dueAt_iff.1 due
    exact none sl mem epoch opened reached
  · show execEmissionCompletion s = _
    simp only [execEmissionCompletion, none]
  · exact paused.elim (by simp [sending.1]) (by simp [sending.2])
  · obtain ⟨acquiring, elapsed⟩ := Timebase.acquireExpired_iff.1 expired
    exact none.elim (absurd acquiring) (fun early => by omega)
  · obtain ⟨locked, elapsed⟩ := Timebase.edgeMissing_iff.1 missing
    exact none.elim (absurd locked) (fun early => by omega)
  · obtain ⟨holdover, elapsed⟩ := Timebase.holdoverOver_iff.1 ended
    exact none.elim (absurd holdover) (fun early => by omega)

/-! ### The step on an empty queue (log 2 to 4) -/

/-- A choice among three that exclude one another is the list of those that hold. -/
theorem ite_singletons_of_exclusive {p q r : Prop} [Decidable p] [Decidable q] [Decidable r] {a b c : Instr}
    (pq : p → ¬ q) (pr : p → ¬ r) (qr : q → ¬ r) : (if p then [a] else if q then [b] else if r then [c] else []) =
      (if p then [a] else []) ++ (if q then [b] else []) ++ (if r then [c] else []) := by
  by_cases hp : p
  · simp [hp, pq hp, pr hp]
  · by_cases hq : q
    · simp [hp, hq, qr hq]
    · simp [hp, hq]

theorem State.timeouts_eq (s : State) : s.timeouts =
    (if s.tb.state = .acquiring ∧ 3000000000 ≤ s.tb.sinceCapture * 8 then [.acquireTimeout] else []) ++
      (if s.tb.state = .locked ∧ 1500000000 ≤ s.tb.sinceCapture * 8 then [.missingEdgeLimit] else []) ++
      (if s.tb.state = .holdover ∧ s.tb.inForce.holdoverLimit * 1000000000 ≤ s.tb.inHoldover * 8 then [.holdoverLimit]
        else []) := by
  simp only [State.timeouts, Timebase.acquireExpired_iff, Timebase.edgeMissing_iff, Timebase.holdoverOver_iff]
  refine ite_singletons_of_exclusive ?_ ?_ ?_ <;> rintro ⟨h, -⟩ ⟨h', -⟩ <;> rw [h] at h' <;> cases h'

theorem State.tickDue_eq (s : State) : s.tickDue =
    if s.run = .running ∧ ∃ e ∈ s.nextEpoch, (e.instant s.settings.rout).atOrBefore s.time then [.epochTick] else [] := by
  unfold State.tickDue
  cases s.nextEpoch <;> simp

theorem State.expiriesDue_eq (s : State) : s.expiriesDue =
    (s.window.filter (fun sl => sl.status = .opened ∧ sl.deadline.atOrBefore s.time)).map
      (fun sl => .deadlineExpiry sl.epoch) := by
  have same : (fun sl : Slot => sl.status == .opened && decide (sl.deadline.atOrBefore s.time)) =
      fun sl => decide (sl.status = .opened ∧ sl.deadline.atOrBefore s.time) :=
    funext fun sl => by rw [Bool.decide_and]; rfl
  rw [State.expiriesDue, same]

/-- An operation that is in flight under a condition, and ends in the period or does not. -/
theorem filter_endsIn (ends : Nat → Bool) (c : Prop) [Decidable c] (op : Nat × Instr) :
    ((if c then [op] else []).filter (fun op => ends op.1)).map (·.2) = if c ∧ ends op.1 = true then [op.2] else [] := by
  by_cases hc : c <;> by_cases he : ends op.1 = true <;> simp [hc, he]

/-- An edit that no handling holds up, and that ends in the period. -/
theorem filter_endsIn_of_none {α : Type} (ends : Nat → Bool) (handling : Option α) (op : Nat × Instr) :
    ((if handling ≠ none then [] else [op]).filter (fun op => ends op.1)).map (·.2) =
      if handling = none ∧ ends op.1 = true then [op.2] else [] := by
  cases handling with
  | none => by_cases he : ends op.1 = true <;> simp [he]
  | some f => simp

theorem State.endings_eq (s : State) : s.endings =
    (if s.handling ≠ none ∧ Config.endsIn s.periods 0 = true then [.frameHandling] else []) ++
      (match s.port with
        | .editing _ _ (.insertion _ _) =>
          if s.handling = none ∧ Config.endsIn s.periods 1 = true then [.insertionEditCompletion] else []
        | .editing _ _ (.removal _ _) =>
          if s.handling = none ∧ Config.endsIn s.periods 1 = true then [.removalEditCompletion] else []
        | .answering _ => if Config.endsIn s.periods 4 = true then [.answerSent] else []
        | .idle => []) ++
      (if s.emission ≠ none ∧ Config.endsIn s.periods 2 = true then [.emissionCompletion] else []) ++
      (if (s.transmitting = true ∧ s.ready = true) ∧ Config.endsIn s.periods 3 = true then [.transmissionCompletion]
        else []) := by
  rw [State.endings, State.inFlight]
  simp only [List.filter_append, List.map_append, Option.isSome_iff_ne_none, filter_endsIn]
  congr 3
  cases s.port with
  | idle => rfl
  | answering a =>
    by_cases ends : Config.endsIn s.periods 4 = true
    · simp [ends]
    · simp [ends]
  | editing kind tag edit =>
    cases edit with
    | insertion => exact filter_endsIn_of_none _ _ _
    | removal => exact filter_endsIn_of_none _ _ _

theorem State.ownStep_released {s : State} (released : s.resetAsserted = false) : s.ownStep = { s.clockPeriod with
    pending := takeInOrder (Config.nextTaken (s.periods + 1)) s.clockPeriod.eventsNow.length s.clockPeriod.eventsNow } := by
  simp only [State.ownStep, released, Bool.false_eq_true, if_false]
  rfl

/-- Settles O2: whatever the picks, the queue is the list of the period's events in some order. -/
theorem emptyQueueStep : Obligations.EmptyQueueStep := by
  unfold Obligations.EmptyQueueStep
  refine ⟨fun s empty => ?_, fun t valid => ⟨valid.advance, LocalTime.advance_of_lt, fun last sec => ?_, fun last sec => ?_⟩⟩
  · have own : step s = .next s.ownStep := by
      unfold step
      rw [empty]
    refine ⟨fun held => ?_, fun released => ⟨s.ownStep, own, ?_, Config.endsIn (s.periods + 1), ?_⟩⟩
    · rw [own]
      exact congrArg _ (if_pos held)
    · rw [State.ownStep_released released]
      cases capture : s.tb.prevCapture <;> simp [State.clockPeriod, Timebase.period, capture]
    · have events := takeInOrder_perm (Config.nextTaken (s.periods + 1)) s.clockPeriod.eventsNow.length
        s.clockPeriod.eventsNow
      rw [State.ownStep_released released]
      refine events.trans (.of_eq ?_)
      rw [State.eventsNow, State.timeouts_eq, State.tickDue_eq, State.expiriesDue_eq, State.endings_eq]
      simp only [List.append_assoc]
      rfl
  · rw [LocalTime.advance_of_last last, nextSec_of_lt sec]
  · rw [LocalTime.advance_of_last last, sec]
    rfl

end Sys2Proof.Machine

/-! Every row completes, and who may change what. -/

namespace Sys2Proof.Machine

/-! ### Every row completes -/

theorem exec_completes (c : Instr) (s : State) : ∃ t, exec c s = .next t := by
  cases c
  case ppsEdge =>
    show ∃ t, execPpsEdge s = .next t
    dsimp only [execPpsEdge]
    split_ifs <;> exact ⟨_, rfl⟩
  case acquireTimeout =>
    show ∃ t, execAcquireTimeout s = .next t
    unfold execAcquireTimeout
    split_ifs <;> exact ⟨_, rfl⟩
  case missingEdgeLimit =>
    show ∃ t, execMissingEdgeLimit s = .next t
    unfold execMissingEdgeLimit
    split_ifs <;> exact ⟨_, rfl⟩
  case holdoverLimit =>
    show ∃ t, execHoldoverLimit s = .next t
    unfold execHoldoverLimit
    split_ifs <;> exact ⟨_, rfl⟩
  case epochTick =>
    show ∃ t, execEpochTick s = .next t
    unfold execEpochTick
    split
    · exact ⟨_, rfl⟩
    · split_ifs <;> exact ⟨_, rfl⟩
  case deadlineExpiry e =>
    show ∃ t, execDeadlineExpiry e s = .next t
    unfold execDeadlineExpiry
    split_ifs <;> exact ⟨_, rfl⟩
  case frameOffered bytes =>
    show ∃ t, execFrameOffered bytes s = .next t
    unfold execFrameOffered
    split_ifs <;> exact ⟨_, rfl⟩
  case insertionEditCompletion =>
    show ∃ t, execInsertionEditCompletion s = .next t
    unfold execInsertionEditCompletion
    split
    · split_ifs <;> exact ⟨_, rfl⟩
    all_goals exact ⟨_, rfl⟩
  case removalEditCompletion =>
    show ∃ t, execRemovalEditCompletion s = .next t
    unfold execRemovalEditCompletion
    split
    · dsimp only
      split_ifs <;> exact ⟨_, rfl⟩
    all_goals exact ⟨_, rfl⟩
  case emissionCompletion =>
    show ∃ t, execEmissionCompletion s = .next t
    unfold execEmissionCompletion
    split <;> exact ⟨_, rfl⟩
  case transmissionCompletion =>
    show ∃ t, execTransmissionCompletion s = .next t
    unfold execTransmissionCompletion
    split_ifs <;> exact ⟨_, rfl⟩
  case answerSent =>
    show ∃ t, execAnswerSent s = .next t
    unfold execAnswerSent
    split <;> exact ⟨_, rfl⟩
  all_goals exact ⟨_, rfl⟩

/-! ### Owners -/

/-- The fields that have owners, the timebase settings in force among them, and the model's own two; the others blank. -/
def State.guarded (s : State) : State :=
  { s.outside with
    resetAsserted := false, tb := { Timebase.reset with inForce := s.tb.inForce }, nextEpoch := none, fifo := []
    handling := none, egress := [], transmitting := false, reception := [], queue := [], port := .idle, scanPtr := 0 }

theorem State.guarded_congr {s t : State} (h : t.outside = s.outside) : t.guarded = s.guarded :=
  (congrArg State.guarded h :)

/-- Which row may change which of the fields that have owners. -/
structure State.KeepsOwners (c : Instr) (s t : State) : Prop where
  directory : t.directory = s.directory ∨ c = .insertionEditCompletion ∨ c = .removalEditCompletion
  settings : t.settings = s.settings ∨ (c = .configureAlignment ∨ testsForStart c) ∧ s.run = .stopped
  mask : t.mask = s.mask ∨ c = .setEngineCauseMask ∨ testsForStart c
  inForce : t.tb.inForce = s.tb.inForce ∨ c = .ppsEdge
  time : t.time = s.time ∨ c = .ppsEdge ∨ c = .setTime ∨ testsForStart c
  run : t.run = s.run ∨ c = .start ∨ c = .stopDrain ∨ c = .stopFlush ∨ c = .resetEngine ∨ c = .emissionCompletion ∨
    testsForStart c
  ready : t.ready = s.ready ∨ c = .readyAssert ∨ c = .readyWithdraw
  pending : t.pending = s.pending
  periods : t.periods = s.periods

/-- What an event changes beside the guarded fields is no matter. -/
theorem State.KeepsOwners.of_guarded {c : Instr} {s t u : State} (h : State.KeepsOwners c s u)
    (same : t.guarded = u.guarded) : State.KeepsOwners c s t := by
  have directory : t.directory = u.directory := (congrArg State.directory same :)
  have settings : t.settings = u.settings := (congrArg State.settings same :)
  have mask : t.mask = u.mask := (congrArg State.mask same :)
  have inForce : t.tb.inForce = u.tb.inForce := (congrArg (fun s => s.tb.inForce) same :)
  have time : t.time = u.time := (congrArg State.time same :)
  have run : t.run = u.run := (congrArg State.run same :)
  have ready : t.ready = u.ready := (congrArg State.ready same :)
  have pending : t.pending = u.pending := (congrArg State.pending same :)
  have periods : t.periods = u.periods := (congrArg State.periods same :)
  exact ⟨directory ▸ h.directory, settings ▸ h.settings, mask ▸ h.mask, inForce ▸ h.inForce, time ▸ h.time, run ▸ h.run,
    ready ▸ h.ready, pending ▸ h.pending, periods ▸ h.periods⟩

theorem State.KeepsOwners.refl (c : Instr) (s : State) : State.KeepsOwners c s s :=
  ⟨.inl rfl, .inl rfl, .inl rfl, .inl rfl, .inl rfl, .inl rfl, .inl rfl, rfl, rfl⟩

/-- An event of the window has no owner's field. -/
theorem State.KeepsOwners.of_outside {c : Instr} {s t : State} (same : t.outside = s.outside) :
    State.KeepsOwners c s t :=
  (State.KeepsOwners.refl c s).of_guarded (State.guarded_congr same)

theorem State.setTimebase_guarded (b : Timebase) (s : State) :
    (s.setTimebase b).guarded = State.guarded { s with tb := b } := by
  unfold State.setTimebase
  split_ifs <;> rfl

@[simp] theorem State.beginTransmission_guarded (s : State) : s.beginTransmission.guarded = s.guarded := by
  unfold State.beginTransmission
  split_ifs <;> rfl

@[simp] theorem State.takeFrame_guarded (s : State) : s.takeFrame.guarded = s.guarded := by
  unfold State.takeFrame
  split
  · rfl
  · split_ifs <;> rfl

@[simp] theorem State.beginEmission_guarded (s : State) : s.beginEmission.guarded = s.guarded :=
  State.guarded_congr s.beginEmission_outside

theorem State.endDrain_guarded (s : State) : s.endDrain.guarded = State.guarded { s with run := s.endDrain.run } := by
  unfold State.endDrain
  split_ifs <;> rfl

/-- R164: the row of a started command, but for the two events that test for a start. -/
theorem Message.startedBy.cases {m : Message} {c : Instr} (h : m.startedBy c) {kind : Nat} (hk : m.kind.toNat = kind)
    (unlike : kind ≠ 7 := by decide) : c = m.command ∨ testsForStart c := by
  rcases h with own | ⟨-, flush⟩ | tests
  · exact .inl own
  · exact absurd (hk.symm.trans flush) unlike
  · exact .inr tests

theorem Message.startedBy.of_stop {m : Message} {c : Instr} (h : m.startedBy c) (hk : m.kind.toNat = 7) :
    c = .stopDrain ∨ c = .stopFlush ∨ testsForStart c := by
  rcases h with own | ⟨flush, -⟩ | tests
  · rw [own, (Message.command_of_stop hk).1]
    split_ifs
    · exact .inr (.inl rfl)
    · exact .inl rfl
  · exact .inr (.inl flush)
  · exact .inr (.inr tests)

/-- R138, R172 to R174: what a started command may change. -/
theorem Message.Effect.keepsOwners {m : Message} {s u : State} {c : Instr} (h : m.Effect s u) (row : m.startedBy c) :
    State.KeepsOwners c s u := by
  have stops (hk : m.kind.toNat = 7) (run : RunState) : State.KeepsOwners c s { s with run } :=
    ⟨.inl rfl, .inl rfl, .inl rfl, .inl rfl, .inl rfl,
      .inr (.inr ((row.of_stop hk).imp_right (.imp_right (.inr ∘ .inr)))), .inl rfl, rfl, rfl⟩
  cases h
  case configured kind stopped _ _ _ =>
    refine ⟨.inl rfl, .inr ⟨(row.cases kind).imp_left fun own => ?_, stopped⟩, .inl rfl, .inl rfl, .inl rfl, .inl rfl,
      .inl rfl, rfl, rfl⟩
    simp only [own, Message.command, kind]
  case timeSet kind _ _ =>
    refine ⟨.inl rfl, .inl rfl, .inl rfl, .inl rfl, .inr (.inr ((row.cases kind).imp_left fun own => ?_)), .inl rfl,
      .inl rfl, rfl, rfl⟩
    simp only [own, Message.command, kind]
  case started kind _ =>
    refine ⟨.inl rfl, .inl rfl, .inl rfl, .inl rfl, .inl rfl, .inr ?_, .inl rfl, rfl, rfl⟩
    rcases row.cases kind with own | tests
    · exact .inl (by simp only [own, Message.command, kind])
    · exact .inr (.inr (.inr (.inr (.inr tests))))
  case engineReset kind =>
    have changed : State.KeepsOwners c s { s with run := .stopped } := by
      refine ⟨.inl rfl, .inl rfl, .inl rfl, .inl rfl, .inl rfl, .inr (.inr (.inr (.inr ?_))), .inl rfl, rfl, rfl⟩
      rcases row.cases kind with own | tests
      · exact .inl (by simp only [own, Message.command, kind])
      · exact .inr (.inr tests)
    exact changed.of_guarded (congrArg State.guarded s.resetEngine_outside :)
  case masked kind _ =>
    refine ⟨.inl rfl, .inl rfl, .inr ((row.cases kind).imp_left fun own => ?_), .inl rfl, .inl rfl, .inl rfl, .inl rfl,
      rfl, rfl⟩
    simp only [own, Message.command, kind]
  case drained kind => exact (stops kind s.drain.run).of_guarded (congrArg State.guarded s.drain_outside :)
  case flushed kind => exact (stops kind s.flush.run).of_guarded (congrArg State.guarded s.flush_outside :)
  case suspended i _ => exact (State.KeepsOwners.refl c s).of_guarded (congrArg State.guarded (State.moveRecord_outside i _ s) :)
  case restarted i _ => exact (State.KeepsOwners.refl c s).of_guarded (congrArg State.guarded (State.moveRecord_outside i _ s) :)
  all_goals exact (State.KeepsOwners.refl c s).of_guarded rfl

/-- R10, R32, R34, R130, R136, R153, R188. -/
theorem State.Moves.keepsOwners {s t : State} {c : Instr} (h : s.Moves c t) (other : c ≠ .powerOn) :
    State.KeepsOwners c s t := by
  cases h
  case stays => exact .refl c s
  case powerOn => exact absurd rfl other
  case edge =>
    refine State.KeepsOwners.of_guarded (u := { s with tb := (s.tb.applyStaged.judge s.time).1.capture s.time })
      ?_ (State.setTimebase_guarded _ _)
    exact ⟨.inl rfl, .inl rfl, .inl rfl, .inr rfl, .inl rfl, .inl rfl, .inl rfl, rfl, rfl⟩
  case edgeSteps =>
    set b : Timebase := { (s.tb.applyStaged.judge s.time).1.capture s.time with armed := none }
    have changed : State.KeepsOwners .ppsEdge s { s with tb := b, time := s.tb.stepTarget s.time } :=
      ⟨.inl rfl, .inl rfl, .inl rfl, .inr rfl, .inr (.inl rfl), .inl rfl, .inl rfl, rfl, rfl⟩
    refine changed.of_guarded ((congrArg State.guarded (State.stepTime_outside _ _) :).trans ?_)
    exact congrArg (fun u => { u with time := s.tb.stepTarget s.time }) (State.setTimebase_guarded b s)
  case timedOut => exact (State.KeepsOwners.refl c s).of_guarded (State.setTimebase_guarded _ _)
  case edgeMissed => exact (State.KeepsOwners.refl _ s).of_guarded (State.setTimebase_guarded _ _)
  case ticked e _ _ _ =>
    exact (State.KeepsOwners.refl _ s).of_guarded
      (State.guarded_congr (State.tick_outside e { s with nextEpoch := e.succ s.settings.rout }) :)
  case frameJoined => exact (State.KeepsOwners.refl _ s).of_guarded (State.takeFrame_guarded _)
  case frameHandled =>
    refine (State.KeepsOwners.refl _ s).of_guarded ?_
    rw [State.takeFrame_guarded]
    exact (congrArg State.guarded s.takeFrame.endHandling_outside :).trans s.takeFrame_guarded
  case inserted i g _ _ =>
    have changed : State.KeepsOwners .insertionEditCompletion s
        { s with directory := insertPair g.streamId i s.directory } :=
      ⟨.inr (.inl rfl), .inl rfl, .inl rfl, .inl rfl, .inl rfl, .inl rfl, .inl rfl, rfl, rfl⟩
    exact changed.of_guarded (State.takeFrame_guarded _)
  case removed id _ _ _ _ =>
    have changed : State.KeepsOwners .removalEditCompletion s { s with directory := removePair id s.directory } :=
      ⟨.inr (.inr rfl), .inl rfl, .inl rfl, .inl rfl, .inl rfl, .inl rfl, .inl rfl, rfl, rfl⟩
    refine changed.of_guarded ?_
    rw [State.takeFrame_guarded, State.beginEmission_guarded]
    rfl
  case emissionCompleted sl _ =>
    set u := State.beginTransmission _ with hu
    have same : u.guarded = s.guarded := by
      rw [hu, State.beginTransmission_guarded, State.beginEmission_guarded]
      rfl
    have changed : State.KeepsOwners .emissionCompletion s { s with run := u.endDrain.run } :=
      ⟨.inl rfl, .inl rfl, .inl rfl, .inl rfl, .inl rfl, .inr (.inr (.inr (.inr (.inr (.inl rfl))))), .inl rfl, rfl, rfl⟩
    refine changed.of_guarded (u.endDrain_guarded.trans ?_)
    exact congrArg (fun v => { v with run := u.endDrain.run }) same
  case transmissionCompleted =>
    refine (State.KeepsOwners.refl _ s).of_guarded ?_
    rw [State.beginTransmission_guarded, State.beginEmission_guarded]
    rfl
  case readyAsserted =>
    have changed : State.KeepsOwners .readyAssert s { s with ready := true } :=
      ⟨.inl rfl, .inl rfl, .inl rfl, .inl rfl, .inl rfl, .inl rfl, .inr (.inl rfl), rfl, rfl⟩
    exact changed.of_guarded (State.beginTransmission_guarded _)
  case readyWithdrawn => exact ⟨.inl rfl, .inl rfl, .inl rfl, .inl rfl, .inl rfl, .inl rfl, .inr (.inr rfl), rfl, rfl⟩
  case emissionBegan => exact .of_outside s.beginEmission_outside
  case expired => exact .of_outside (State.beginEmission_outside _)
  case transmissionBegan => exact (State.KeepsOwners.refl _ s).of_guarded s.beginTransmission_guarded
  case starts effect row =>
    obtain ⟨directory, settings, mask, inForce, time, run, ready, pending, periods⟩ := effect.keepsOwners row
    exact ⟨directory, settings, mask, inForce, time, run, ready, pending, periods⟩
  all_goals exact (State.KeepsOwners.refl _ s).of_guarded rfl

/-- Settles O52. -/
theorem ownersOfTheState : Obligations.OwnersOfTheState := by
  unfold Obligations.OwnersOfTheState
  intro c s t h other
  have owners := (exec_moves h).keepsOwners other
  exact ⟨owners.directory.resolve_left, owners.settings.resolve_left, owners.mask.resolve_left,
    owners.inForce.resolve_left, owners.time.resolve_left, owners.run.resolve_left, owners.ready.resolve_left⟩

/-- Settles O3. -/
theorem everyCommandCompletes : Obligations.EveryCommandCompletes := by
  unfold Obligations.EveryCommandCompletes
  refine ⟨fun c s => ?_, fun s => ?_⟩
  · obtain ⟨t, row⟩ := exec_completes c s
    refine ⟨t, row, ?_⟩
    by_cases on : c = .powerOn
    · subst on
      cases row
      exact ⟨rfl, rfl⟩
    · have owners := (exec_moves row).keepsOwners on
      exact ⟨owners.pending, owners.periods⟩
  · unfold step
    split
    · exact exec_completes _ _
    · exact ⟨_, rfl⟩

/-! ### The invariants at reset -/

theorem State.WithinCapacity.reset : State.reset.WithinCapacity := by
  refine State.withinCapacity_iff.2 ⟨⟨List.length_replicate, ?_, ?_, nofun⟩, .of_empty rfl, ⟨?_, rfl, nofun, fun _ => rfl⟩⟩
  · exact Nat.zero_le 64
  · exact Nat.zero_le 4
  · exact Nat.zero_le 8

theorem State.Running.reset : State.reset.Running :=
  State.running_iff.2 ⟨State.InRange.reset, .of_empty rfl rfl rfl rfl⟩

theorem State.HeldCounted.reset : State.reset.HeldCounted := by
  intro i _
  rw [State.reset_record i]
  exact ⟨rfl, nofun, fun _ => rfl⟩

theorem State.Registered.reset : State.reset.Registered :=
  ⟨.reset, State.directorySound_iff.2 (.of_vacant rfl rfl nofun), .reset⟩

theorem State.forall_mem_reset_records {p : Record → Prop} (h : p Record.vacant) : ∀ r ∈ State.reset.records, p r :=
  fun _ mem => List.eq_of_mem_replicate mem ▸ h

/-- Settles O60. -/
theorem invariantsHoldAtReset : Obligations.InvariantsHoldAtReset := by
  unfold Obligations.InvariantsHoldAtReset
  refine ⟨.reset, .reset, .reset, ⟨State.forall_mem_reset_records Record.vacant_valid, trivial⟩,
    ⟨State.forall_mem_reset_records fun taken => absurd rfl taken, trivial⟩, ?_, ?_, ?_⟩
  · exact State.slotsSound_iff.2 ⟨.reset, ⟨nofun, nofun, nofun⟩⟩
  · exact State.SetsInOrder.of_none (s := State.reset) rfl
  · show 1023 < 1024
    omega

end Sys2Proof.Machine

/-! Steps of local time, the tick of an epoch, waits and deadlines. -/

namespace Sys2Proof.Machine

/-! ### Expiry (R142, R143) -/

theorem Slot.expire_eq (now : LocalTime) (sl : Slot) : sl.expire now =
    if sl.status = .opened ∧ sl.deadline.atOrBefore now then { sl with status := .due .deadline } else sl := by
  unfold Slot.expire
  by_cases opened : sl.status = .opened
  · simp only [opened, true_and, Slot.release_opened]
  · simp only [opened, false_and, if_false, Slot.release_due _ opened, ite_self]

theorem Slot.expireIf_eq (e : Epoch) (now : LocalTime) (sl : Slot) : sl.expireIf e now =
    if sl.epoch = e ∧ sl.status = .opened ∧ sl.deadline.atOrBefore now then { sl with status := .due .deadline }
    else sl := by
  unfold Slot.expireIf
  by_cases due : sl.epoch = e ∧ sl.status = .opened ∧ sl.deadline.atOrBefore now
  · rw [if_pos due, if_pos (Slot.dueAt_iff.2 due), Slot.release_opened _ due.2.1]
  · rw [if_neg due, if_neg fun h => due (Slot.dueAt_iff.1 h)]

/-- Settles O19. -/
theorem deadlinesExpire : Obligations.DeadlinesExpire := by
  unfold Obligations.DeadlinesExpire
  refine ⟨fun rout e wait _ _ _ => ⟨fun within => if_pos within, fun past => if_neg (Nat.not_le.2 past)⟩,
    fun s e sl mem epoch opened reached => ?_⟩
  have due : s.window.any (Slot.dueAt e s.time) = true :=
    List.any_eq_true.2 ⟨sl, mem, Slot.dueAt_iff.2 ⟨epoch, opened, reached⟩⟩
  have map : Slot.expireIf e s.time = fun sl =>
      if sl.epoch = e ∧ sl.status = .opened ∧ sl.deadline.atOrBefore s.time then { sl with status := .due .deadline }
      else sl := funext (Slot.expireIf_eq e s.time)
  rw [← map]
  exact if_pos due

/-! ### Steps of local time (R48, R49, R143) -/

/-- R143: the deadlines that a forward step to `t` reaches. -/
def State.expiredAt (t : LocalTime) (s : State) : State :=
  State.beginEmission { s with
    time := t
    window := s.window.map (fun sl =>
      if sl.status = .opened ∧ sl.deadline.atOrBefore t then { sl with status := .due .deadline } else sl) }

theorem State.stepTime_forward {s : State} {t : LocalTime} (forward : s.time.before t) :
    s.stepTime t = (s.expiredAt t).tickReached := by
  have map : Slot.expire t = fun sl =>
      if sl.status = .opened ∧ sl.deadline.atOrBefore t then { sl with status := .due .deadline } else sl :=
    funext (Slot.expire_eq t)
  rw [State.expiredAt, ← map]
  exact if_pos forward

theorem State.expiredAt_outside (t : LocalTime) (s : State) : (s.expiredAt t).outside = { s.outside with time := t } :=
  State.beginEmission_outside _

theorem State.skipEpochs_pos {n : Nat} (h : 0 < n) (s : State) : s.skipEpochs n = { s with
    counters := { s.counters with skipped := min (s.counters.skipped + n) 4294967295 }
    causes := s.causes ||| EngineCause.epochSkipped } := if_neg (Nat.pos_iff_ne_zero.1 h)

theorem State.tickReached_none {s : State} (h : s.run ≠ .running ∨ s.nextEpoch = none) : s.tickReached = s := by
  unfold State.tickReached
  split
  · rfl
  next e next => exact if_neg fun due => h.elim (absurd due.1) (by rw [next]; nofun)

theorem State.tickReached_early {s : State} {e : Epoch} (next : s.nextEpoch = some e)
    (early : (latestEpoch s.settings.rout s.time).key s.settings.rout < e.key s.settings.rout) : s.tickReached = s := by
  simp only [State.tickReached, next]
  exact if_neg fun due => Nat.not_le.2 early due.2

/-- R48: a step that reaches the next epoch ticks for the latest one reached, the epochs between being skipped. -/
theorem State.tickReached_reached {s : State} {e last : Epoch} {rout : Nat} (rate : s.settings.rout = rout)
    (running : s.run = .running) (next : s.nextEpoch = some e) (last_eq : latestEpoch rout s.time = last)
    (reached : e.key rout ≤ last.key rout) : s.tickReached =
      (State.skipEpochs (last.key rout - e.key rout) { s with nextEpoch := last.succ rout }).tick last := by
  subst rate last_eq
  simp only [State.tickReached, next]
  exact if_pos ⟨running, reached⟩

/-- Settles O11. -/
theorem stepsOfLocalTime : Obligations.StepsOfLocalTime := by
  unfold Obligations.StepsOfLocalTime
  intro s t
  refine ⟨fun backward => if_neg backward, fun forward => ?_⟩
  show (_ → s.stepTime t = s.expiredAt t) ∧ _
  have outside := s.expiredAt_outside t
  have run : (s.expiredAt t).run = s.run := (congrArg State.run outside :)
  have next_eq : (s.expiredAt t).nextEpoch = s.nextEpoch := (congrArg State.nextEpoch outside :)
  have settings : (s.expiredAt t).settings = s.settings := (congrArg State.settings outside :)
  have time : (s.expiredAt t).time = t := (congrArg State.time outside :)
  have counters : (s.expiredAt t).counters = s.counters := State.beginEmission_counters _
  rw [State.stepTime_forward forward]
  refine ⟨fun idle => State.tickReached_none (by rwa [run, next_eq]), fun e running next => ?_⟩
  have rate : (s.expiredAt t).settings.rout = s.settings.rout := congrArg AlignSettings.rout settings
  have last_eq : latestEpoch s.settings.rout (s.expiredAt t).time = latestEpoch s.settings.rout t := by rw [time]
  refine ⟨fun early => ?_, fun same => ?_, fun late => ?_⟩
  · refine State.tickReached_early (next_eq.trans next) ?_
    rwa [rate, last_eq]
  · rw [State.tickReached_reached rate (run.trans running) (next_eq.trans next) last_eq same.ge, same, Nat.sub_self]
    rfl
  · rw [State.tickReached_reached rate (run.trans running) (next_eq.trans next) last_eq late.le,
      State.skipEpochs_pos (Nat.sub_pos_of_lt late)]
    simp only [counters]
    rfl

/-! ### The tick (R24, R47, R112 to R114) -/

theorem State.beforeOpening_length (k : Nat) (s : State) :
    (s.beforeOpening k).records.length = s.records.length ∧ (s.beforeOpening k).window.length = s.window.length := by
  simp [State.beforeOpening, State.countSilence, State.foldl_leaveActive]

/-- R24, R98, R99: what comes before the opening, with the records that fall SILENT. -/
theorem State.beforeOpening_falls (k : Nat) (s : State) : ∃ fell : List Nat,
    (∀ i, i ∈ fell ↔ (s.record i).state = .active ∧ ((s.beforeOpening k).record i).state = .silent) ∧
      (s.beforeOpening k).window = s.window.map (fun sl => fell.foldl (fun acc i => acc.dropExpected i) sl) := by
  set settled := s.mapRecords (fun _ r => r.settleAmendment) with settled_eq
  refine ⟨settled.fallingSilent k, fun i => ?_, ?_⟩
  · have amended : settled.record i = (s.record i).settleAmendment := by
      rw [settled_eq, State.record_mapRecords]
      split_ifs with inside
      · rfl
      · simp [State.record, Nat.not_lt.1 inside, Record.settleAmendment, Record.vacant]
    rw [State.mem_fallingSilent, amended, Record.settleAmendment_state, State.record_beforeOpening]
    rfl
  · simp only [State.beforeOpening, State.countSilence, State.foldl_leaveActive]
    rfl

/-- R113, R143: the slot that opens is DUE at once where its deadline has passed. -/
theorem State.newSlot_expire (e : Epoch) (s : State) : (s.newSlot e).expire s.time =
    { s.newSlot e with
      status := if (deadlineOf s.settings.rout e s.waitNow).atOrBefore s.time then .due .deadline else .opened } := by
  rw [Slot.expire_eq]
  by_cases passed : (deadlineOf s.settings.rout e s.waitNow).atOrBefore s.time
  · have due : (s.newSlot e).status = .opened ∧ (s.newSlot e).deadline.atOrBefore s.time := ⟨rfl, passed⟩
    rw [if_pos due, if_pos passed]
  · have early : ¬ ((s.newSlot e).status = .opened ∧ (s.newSlot e).deadline.atOrBefore s.time) := fun h => passed h.2
    rw [if_neg early, if_neg passed]
    rfl

/-- R47, R113: with room in the window, what comes before the opening and then the new slot. -/
theorem State.opensSlot_beforeOpening (e : Epoch) (s : State) :
    State.opensSlot e s (((s.beforeOpening e.k).pushSlot e).beginEmission) := by
  obtain ⟨fell, silent, window⟩ := s.beforeOpening_falls e.k
  have frame := s.beforeOpening_frame e.k
  have settings : (s.beforeOpening e.k).settings = s.settings := (congrArg State.settings frame :)
  have time : (s.beforeOpening e.k).time = s.time := (congrArg State.time frame :)
  have tb : (s.beforeOpening e.k).tb = s.tb := (congrArg State.tb frame :)
  refine ⟨s.beforeOpening e.k, fell, frame, (s.beforeOpening_length e.k).1,
    fun i => s.record_beforeOpening e.k i, silent, window, ?_⟩
  rw [State.pushSlot, State.newSlot_expire, State.newSlot, settings, time, tb]

theorem State.tick_room {e : Epoch} {s : State} (room : s.makeRoom.window.length < 64) :
    State.opensSlot e s.makeRoom (s.tick e) := by
  have opens : s.tick e = ((s.makeRoom.beforeOpening e.k).pushSlot e).beginEmission := if_pos room
  rw [opens]
  exact State.opensSlot_beforeOpening e _

/-- R46, R47: the tick of the next epoch, its instant reached. -/
theorem exec_epochTick_due {s : State} {e : Epoch} (running : s.run = .running) (next : s.nextEpoch = some e)
    (reached : (e.instant s.settings.rout).atOrBefore s.time) :
    exec .epochTick s = .next (State.tick e { s with nextEpoch := e.succ s.settings.rout }) := by
  show execEpochTick s = _
  simp only [execEpochTick, next]
  exact if_pos ⟨running, reached⟩

/-- Settles O13. -/
theorem tickOpensASlot : Obligations.TickOpensASlot := by
  unfold Obligations.TickOpensASlot
  intro s e running next reached room
  set u : State := { s with nextEpoch := e.succ s.settings.rout }
  have roomy : u.makeRoom = u := if_pos room
  refine ⟨u.tick e, exec_epochTick_due running next reached, ?_⟩
  have opened := State.tick_room (e := e) (s := u) (by rwa [roomy])
  rwa [roomy] at opened

/-! ### A tick at a full window (R112, R114) -/

/-- R112: the oldest slot of a full window, forced out if it is OPEN. -/
def Slot.forcedOut (sl : Slot) : Slot := if sl.status = .opened then { sl with status := .due .windowFull } else sl

theorem Slot.forcedOut_due (sl : Slot) : sl.forcedOut.status ≠ .opened := by
  unfold Slot.forcedOut
  split_ifs with opened
  · nofun
  · exact opened

theorem State.makeRoom_full {s : State} {sl : Slot} {rest : List Slot} (window : s.window = sl :: rest)
    (full : s.window.length = 64) : s.makeRoom = State.beginEmission { s with
      window := sl.forcedOut :: rest
      causes := if sl.status = .opened then s.causes ||| EngineCause.windowFull else s.causes } := by
  have crowded : ¬ s.window.length < Config.windowCapacity := Nat.not_lt.2 full.ge
  rw [State.makeRoom, if_neg crowded]
  simp only [window, Slot.forcedOut]
  by_cases opened : sl.status = .opened
  · simp only [opened, if_true, Slot.release_opened _ opened]
    rfl
  · simp only [opened, if_false, ← window]

/-- R114: where no emission can begin, the epoch is skipped. -/
theorem State.tick_full_noRoom {s : State} {e : Epoch} {sl : Slot} {rest : List Slot} (window : s.window = sl :: rest)
    (full : s.window.length = 64) (noRoom : ¬ s.hasRoom) : s.tick e = { s with
      window := sl.forcedOut :: rest
      counters := { s.counters with skipped := min (s.counters.skipped + 1) 4294967295 }
      causes :=
        (if sl.status = .opened then s.causes ||| EngineCause.windowFull else s.causes) ||| EngineCause.epochSkipped } := by
  have stays : s.makeRoom = { s with
      window := sl.forcedOut :: rest
      causes := if sl.status = .opened then s.causes ||| EngineCause.windowFull else s.causes } :=
    (State.makeRoom_full window full).trans (State.beginEmission_none (.inr (.inr noRoom)))
  have crowded : ¬ s.makeRoom.window.length < 64 := by
    rw [stays]
    rw [window] at full
    exact Nat.not_lt.2 full.ge
  have skips : s.tick e = s.makeRoom.skipEpochs 1 := if_neg crowded
  rw [skips, State.skipEpochs_pos Nat.one_pos, stays]

/-- Settles O15: the oldest slot is forced out where it is OPEN, and taken where an emission can begin. -/
theorem tickAtAFullWindow : Obligations.TickAtAFullWindow := by
  unfold Obligations.TickAtAFullWindow
  intro s e sl rest running next reached window full
  rw [exec_epochTick_due running next reached]
  set u : State := { s with nextEpoch := e.succ s.settings.rout } with hu
  have skips (noRoom : ¬ s.hasRoom) := State.tick_full_noRoom (s := u) (e := e) window full noRoom
  refine ⟨fun due noRoom => ?_, fun opened noRoom => ?_, fun room => ?_⟩
  · rw [skips noRoom, Slot.forcedOut, if_neg due, if_neg due, ← window]
  · rw [skips noRoom, Slot.forcedOut, if_pos opened, if_pos opened]
  · have taken := (State.makeRoom_full (s := u) window full).trans
      (State.beginEmission_takes rfl sl.forcedOut_due room)
    have fits : u.makeRoom.window.length < 64 := by
      rw [taken]
      rw [window, List.length_cons] at full
      show rest.length < 64
      omega
    refine ⟨sl.forcedOut, u.makeRoom, u.tick e, rfl, ?_, ?_, ?_, rfl, State.tick_room fits⟩
    · exact congrArg Host.Outcome.next (State.makeRoom_full (s := u) window full).symm
    · rw [taken]
      rfl
    · rw [taken]
      rfl

/-! ### Rates and output epochs (R17, R72 to R75) -/

theorem rateCompatible_iff (rs rout : Nat) : rateCompatible rs rout = true ↔ max rs rout % min rs rout = 0 := by
  unfold rateCompatible
  split_ifs with le
  · rw [max_eq_left le, min_eq_right le, beq_iff_eq]
  · rw [max_eq_right (Nat.le_of_not_le le), min_eq_left (Nat.le_of_not_le le), beq_iff_eq]

/-- R72: at a rate of at least the output rate, one grid point of `d` is an output epoch. -/
theorem outputIndex_thin {d rout : Nat} (hd : 0 < d) (hr : 0 < rout) (j : Nat) :
    outputIndex (rout * d) rout j = if j % d = 0 then some (j / d) else none := by
  rw [outputIndex, if_pos (Nat.le_mul_of_pos_right rout hd), Nat.mul_div_cancel_left d hr]

/-- R73: at a lower rate, every grid point is an output epoch. -/
theorem outputIndex_spread {d rs : Nat} (hd : 1 < d) (hs : 0 < rs) (j : Nat) :
    outputIndex rs (rs * d) j = some (j * d) := by
  have lt : rs < rs * d := (Nat.lt_mul_iff_one_lt_right hs).2 hd
  rw [outputIndex, if_neg (Nat.not_le.2 lt), Nat.mul_div_cancel_left d hs]

/-- Compatible rates: the stream's is a multiple of the output's, or the output's a greater multiple of the stream's. -/
theorem rateCompatible_cases {rs rout : Nat} (hs : 0 < rs) (hr : 0 < rout) (h : rateCompatible rs rout = true) :
    (∃ d, 0 < d ∧ rs = rout * d) ∨ ∃ d, 1 < d ∧ rout = rs * d := by
  have multiple := (rateCompatible_iff rs rout).1 h
  rcases Nat.lt_or_ge rs rout with lt | ge
  · right
    rw [max_eq_right lt.le, min_eq_left lt.le] at multiple
    obtain ⟨d, rfl⟩ := Nat.dvd_of_mod_eq_zero multiple
    exact ⟨d, Nat.lt_of_mul_lt_mul_left (a := rs) (by omega), rfl⟩
  · left
    rw [max_eq_left ge, min_eq_right ge] at multiple
    obtain ⟨d, rfl⟩ := Nat.dvd_of_mod_eq_zero multiple
    exact ⟨d, Nat.pos_of_mul_pos_left hs, rfl⟩

theorem rateExpected_thin {d rout : Nat} (hd : 0 < d) (hr : 0 < rout) {k : Nat} (hk : k < rout) :
    rateExpected (rout * d) rout k = true ↔ ∃ j < rout * d, outputIndex (rout * d) rout j = some k := by
  refine iff_of_true ?_ ⟨k * d, Nat.mul_lt_mul_of_pos_right hk hd, ?_⟩
  · simp [rateExpected, Nat.le_mul_of_pos_right rout hd]
  · rw [outputIndex_thin hd hr, if_pos (Nat.mul_mod_left k d), Nat.mul_div_cancel k hd]

theorem rateExpected_spread {d rs : Nat} (hd : 1 < d) (hs : 0 < rs) {k : Nat} (hk : k < rs * d) :
    rateExpected rs (rs * d) k = true ↔ ∃ j < rs, outputIndex rs (rs * d) j = some k := by
  have lt : ¬ rs * d ≤ rs := Nat.not_le.2 ((Nat.lt_mul_iff_one_lt_right hs).2 hd)
  have expected : rateExpected rs (rs * d) k = true ↔ d ∣ k := by
    rw [rateExpected, decide_eq_false lt, Bool.false_or, beq_iff_eq, ← Nat.dvd_iff_mod_eq_zero, Nat.mul_comm rs d,
      Nat.mul_dvd_mul_iff_right hs]
  simp only [expected, outputIndex_spread hd hs, Option.some.injEq]
  constructor
  · rintro ⟨j, rfl⟩
    rw [Nat.mul_comm d j] at hk ⊢
    exact ⟨j, Nat.lt_of_mul_lt_mul_right hk, rfl⟩
  · rintro ⟨j, -, rfl⟩
    exact Nat.dvd_mul_left d j

/-- Settles O16. -/
theorem ratesAndTheirEpochs : Obligations.RatesAndTheirEpochs := by
  unfold Obligations.RatesAndTheirEpochs
  refine ⟨fun rs hrs rout hrout compatible => ?_, rateCompatible_iff, by decide, by decide, by decide, fun rate => ?_⟩
  · have hs := streamRates_pos rs hrs
    have hr := outputRates_pos hrout
    rcases rateCompatible_cases hs hr compatible with ⟨d, hd, rfl⟩ | ⟨d, hd, rfl⟩
    · refine ⟨fun k hk => rateExpected_thin hd hr hk, fun j hj k index => ?_, fun j _ le => ?_⟩
      · rw [outputIndex_thin hd hr] at index
        split_ifs at index with multiple
        cases index
        obtain ⟨k, rfl⟩ := Nat.dvd_of_mod_eq_zero multiple
        rw [Nat.mul_div_cancel_left k hd]
        refine ⟨Nat.lt_of_mul_lt_mul_right (a := d) (by rwa [Nat.mul_comm k d]), by ring⟩
      · have one : d = 1 := by
          refine Nat.le_antisymm ?_ hd
          exact Nat.le_of_mul_le_mul_left (by rwa [Nat.mul_one]) hr
        rw [outputIndex_thin hd hr, one, if_pos (Nat.mod_one j)]
        nofun
    · refine ⟨fun k hk => rateExpected_spread hd hs hk, fun j hj k index => ?_, fun j _ _ => ?_⟩
      · rw [outputIndex_spread hd hs] at index
        cases index
        exact ⟨Nat.mul_lt_mul_of_pos_right hj (by omega), by ring⟩
      · rw [outputIndex_spread hd hs]
        nofun
  · rw [rateCompatible_iff, max_self, min_self, Nat.mod_self]

/-! ### The wait of a slot (R140) -/

theorem State.mem_pacing {s : State} {l : Nat} : l ∈ s.pacing ↔
    ∃ r ∈ s.records, r.state = .active ∧ r.cls = .member ∧ r.filtered = some l := by
  simp only [State.pacing, List.mem_filterMap, Option.ite_none_right_eq_some, Bool.and_eq_true, beq_iff_eq, and_assoc]

theorem State.lcrit_none {s : State} (h : ∀ r ∈ s.records, r.state = .active → r.cls = .member → r.filtered = none) :
    s.lcrit = none := by
  rw [State.lcrit, List.max?_eq_none_iff, List.eq_nil_iff_forall_not_mem]
  intro l mem
  obtain ⟨r, hr, active, member, some⟩ := State.mem_pacing.1 mem
  rw [h r hr active member] at some
  cases some

theorem State.lcrit_some {s : State} {crit : Nat}
    (held : ∃ r ∈ s.records, r.state = .active ∧ r.cls = .member ∧ r.filtered = some crit)
    (most : ∀ r ∈ s.records, r.state = .active → r.cls = .member → ∀ l, r.filtered = some l → l ≤ crit) :
    s.lcrit = some crit := by
  rw [State.lcrit, List.max?_eq_some_iff]
  refine ⟨State.mem_pacing.2 held, fun l mem => ?_⟩
  obtain ⟨r, hr, active, member, some⟩ := State.mem_pacing.1 mem
  exact most r hr active member l some

/-- Settles O18. -/
theorem waitOfASlot : Obligations.WaitOfASlot := by
  unfold Obligations.WaitOfASlot
  refine fun s => ⟨State.waitNow_fixed, fun adaptive none => ?_, fun crit raw adaptive held most above below => ?_⟩
  · rw [State.waitNow_adaptive adaptive, State.lcrit_none none]
    rfl
  · have rounded : rawWait s.settings (some crit) = raw := by
      show (crit * (128 + s.settings.margin) + 127) / 128 = raw
      omega
    rw [State.waitNow_adaptive adaptive, State.lcrit_some held most, rounded]

end Sys2Proof.Machine

/-! Bytes, most significant first: what is written is read back. -/

namespace Sys2Proof.Machine

/-! ### Numbers in bytes -/

@[simp] theorem beBytes_length (n v : Nat) : (beBytes n v).length = n := by
  induction n with
  | zero => rfl
  | succ n ih => rw [beBytes, List.length_cons, ih]

theorem beNat_append (as bs : List Byte) : beNat (as ++ bs) = beNat as * 256 ^ bs.length + beNat bs := by
  induction bs using List.reverseRecOn with
  | nil => simp [beNat]
  | append_singleton bs b ih =>
    rw [← List.append_assoc, beNat_append_singleton, beNat_append_singleton, ih, List.length_append,
      List.length_singleton]
    ring

theorem beNat_cons (b : Byte) (bs : List Byte) : beNat (b :: bs) = b.toNat * 256 ^ bs.length + beNat bs := by
  have single : beNat [b] = b.toNat := by simp [beNat]
  rw [← single]
  exact beNat_append [b] bs

theorem beNat_beBytes (n v : Nat) : beNat (beBytes n v) = v % 256 ^ n := by
  induction n with
  | zero => simp [beBytes, beNat, Nat.mod_one]
  | succ n ih =>
    have split : v % 256 ^ (n + 1) = v % 256 ^ n + 256 ^ n * (v / 256 ^ n % 256) := by rw [Nat.pow_succ, Nat.mod_mul]
    have byte : (BitVec.ofNat 8 (v / 256 ^ n)).toNat = v / 256 ^ n % 256 := BitVec.toNat_ofNat ..
    rw [beBytes, beNat_cons, beBytes_length, ih, byte, split, Nat.add_comm, Nat.mul_comm]

theorem beNat_beBytes_of_lt {n v : Nat} (h : v < 256 ^ n) : beNat (beBytes n v) = v := by
  rw [beNat_beBytes, Nat.mod_eq_of_lt h]

/-- `n` bytes hold what a number is modulo `256 ^ n`. -/
theorem beBytes_add_mul (n v k : Nat) : beBytes n (v + k * 256 ^ n) = beBytes n v := by
  induction n generalizing k with
  | zero => rfl
  | succ n ih =>
    have shift : v + k * 256 ^ (n + 1) = v + k * 256 * 256 ^ n := by rw [Nat.pow_succ]; ring
    rw [beBytes, beBytes, shift, ih, Nat.add_mul_div_right _ _ (by positivity)]
    refine congrArg (· :: beBytes n v) (BitVec.eq_of_toNat_eq ?_)
    simp only [BitVec.toNat_ofNat]
    omega

/-- Bytes are the spelling of their number. -/
theorem beBytes_beNat (bs : List Byte) : beBytes bs.length (beNat bs) = bs := by
  induction bs with
  | nil => rfl
  | cons b bs ih =>
    have small := beNat_lt bs
    have high : (b.toNat * 256 ^ bs.length + beNat bs) / 256 ^ bs.length = b.toNat := by
      rw [Nat.mul_comm, Nat.mul_add_div (by positivity), Nat.div_eq_of_lt small, Nat.add_zero]
    rw [List.length_cons, beBytes, beNat_cons, high, BitVec.ofNat_toNat, BitVec.setWidth_eq, Nat.add_comm,
      beBytes_add_mul, ih]

/-! ### Fields at their offsets -/

theorem fieldAt_append {pre : List Byte} {n : Nat} (length : pre.length = n) (rest : List Byte) (offset size : Nat) :
    fieldAt (pre ++ rest) (n + offset) size = fieldAt rest offset size := by
  rw [fieldAt, fieldAt, ← length, List.drop_append, List.drop_eq_nil_of_le (Nat.le_add_right _ _), List.nil_append,
    Nat.add_sub_cancel_left]

/-- A field behind a number in bytes. -/
theorem fieldAt_skip {n offset : Nat} (h : n ≤ offset) (v size : Nat) (rest : List Byte) :
    fieldAt (beBytes n v ++ rest) offset size = fieldAt rest (offset - n) size := by
  have same := fieldAt_append (beBytes_length n v) rest (offset - n) size
  rwa [Nat.add_sub_cancel' h] at same

/-- A field is read as it was written. -/
theorem fieldAt_head (n v : Nat) (rest : List Byte) : fieldAt (beBytes n v ++ rest) 0 n = v % 256 ^ n := by
  rw [fieldAt, List.drop_zero, List.take_left' (beBytes_length n v), beNat_beBytes]

theorem fieldAt_flatMap {α : Type} {g : α → List Byte} {b : Nat} (size : ∀ x, (g x).length = b) {xs : List α} {i : Nat}
    (hi : i < xs.length) (rest : List Byte) : ∃ tail, ∀ offset n,
      fieldAt (xs.flatMap g ++ rest) (b * i + offset) n = fieldAt (g xs[i] ++ tail) offset n := by
  induction xs generalizing i with
  | nil => cases hi
  | cons x xs ih =>
    cases i with
    | zero =>
      refine ⟨xs.flatMap g ++ rest, fun offset n => ?_⟩
      rw [List.flatMap_cons, List.append_assoc, Nat.mul_zero, Nat.zero_add]
      rfl
    | succ i =>
      obtain ⟨tail, same⟩ := ih (i := i) (Nat.lt_of_succ_lt_succ hi)
      refine ⟨tail, fun offset n => ?_⟩
      rw [List.flatMap_cons, List.append_assoc, Nat.mul_succ, Nat.add_right_comm, Nat.add_comm, fieldAt_append (size x)]
      exact same offset n

theorem length_flatMap_of_size {α : Type} {g : α → List Byte} {b : Nat} (size : ∀ x, (g x).length = b) (xs : List α) :
    (xs.flatMap g).length = b * xs.length := by
  simp [List.length_flatMap, size, Nat.mul_comm]

theorem ofNat_mod_toNat (w : BitVec 16) : BitVec.ofNat 16 (w.toNat % 256 ^ 2) = w := by
  rw [Nat.mod_eq_of_lt (show w.toNat < 256 ^ 2 from w.isLt), BitVec.ofNat_toNat, BitVec.setWidth_eq]

/-! ### The ingress frame (R191) -/

/-- R191: a phasor as it travels. -/
def Phasor.wire (ph : Phasor) : List Byte := beBytes 2 ph.magnitude.toNat ++ beBytes 2 ph.angle.toNat

theorem Phasor.wire_length (ph : Phasor) : ph.wire.length = 4 := by simp [Phasor.wire]

/-- R191: the data of a frame, behind its header of 16 bytes. -/
def Measured.wire (m : Measured) : List Byte :=
  m.phasors.flatMap Phasor.wire ++ (beBytes 2 m.freqDev.toNat ++ (beBytes 2 m.rocof.toNat ++
    (m.analogs.flatMap (fun a => beBytes 2 a.toNat) ++ (beBytes 2 m.digital.toNat ++ []))))

/-- R191: the header and then the data. -/
theorem frameBytes_eq (id soc quality frac : Nat) (flags : BitVec 16) (m : Measured) :
    frameBytes id soc quality frac flags m = beBytes 4 id ++ (beBytes 4 soc ++ (beBytes 1 quality ++ (beBytes 3 frac ++
      (beBytes 2 flags.toNat ++ (beBytes 1 m.phasors.length ++ (beBytes 1 m.analogs.length ++ m.wire)))))) := by
  simp only [frameBytes, Measured.bytes, Measured.wire, List.append_assoc, List.append_nil]
  rfl

theorem frameBytes_data (id soc quality frac : Nat) (flags : BitVec 16) (m : Measured) (offset size : Nat) :
    fieldAt (frameBytes id soc quality frac flags m) (16 + offset) size = fieldAt m.wire offset size := by
  rw [frameBytes_eq, fieldAt_skip (by omega), fieldAt_skip (by omega), fieldAt_skip (by omega), fieldAt_skip (by omega),
    fieldAt_skip (by omega), fieldAt_skip (by omega), fieldAt_skip (by omega)]
  congr 1
  omega

theorem frameBytes_freq (id soc quality frac : Nat) (flags : BitVec 16) (m : Measured) (offset size : Nat) :
    fieldAt (frameBytes id soc quality frac flags m) (16 + 4 * m.phasors.length + offset) size =
      fieldAt (beBytes 2 m.freqDev.toNat ++ (beBytes 2 m.rocof.toNat ++
        (m.analogs.flatMap (fun a => beBytes 2 a.toNat) ++ (beBytes 2 m.digital.toNat ++ [])))) offset size := by
  rw [Nat.add_assoc, frameBytes_data, Measured.wire, fieldAt_append (length_flatMap_of_size Phasor.wire_length _)]

theorem frameBytes_analogs (id soc quality frac : Nat) (flags : BitVec 16) (m : Measured) (offset size : Nat) :
    fieldAt (frameBytes id soc quality frac flags m) (20 + 4 * m.phasors.length + offset) size =
      fieldAt (m.analogs.flatMap (fun a => beBytes 2 a.toNat) ++ (beBytes 2 m.digital.toNat ++ [])) offset size := by
  have shift : 20 + 4 * m.phasors.length + offset = 16 + 4 * m.phasors.length + (4 + offset) := by omega
  rw [shift, frameBytes_freq, fieldAt_skip (by omega), fieldAt_skip (by omega)]
  congr 1
  omega

/-- R191: a block of constant size among blocks is read back. -/
theorem map_range_eq {α : Type} {xs : List α} {n : Nat} (hn : n = xs.length) {read : Nat → α}
    (h : ∀ i (hi : i < xs.length), read i = xs[i]) : (List.range n).map read = xs := by
  subst hn
  refine List.ext_getElem (by simp) fun i hi hi' => ?_
  simpa using h i hi'

/-- R191: the measured data of a frame, at the offsets its counts give. -/
theorem measured_frameBytes {f : QueuedFrame} {id soc quality frac : Nat} {flags : BitVec 16} {m : Measured}
    (bytes : f.bytes = frameBytes id soc quality frac flags m) :
    f.measured m.phasors.length m.analogs.length = m := by
  have phasors : (List.range m.phasors.length).map f.phasor = m.phasors := by
    refine map_range_eq rfl fun i hi => ?_
    obtain ⟨tail, same⟩ := fieldAt_flatMap Phasor.wire_length hi (beBytes 2 m.freqDev.toNat ++ (beBytes 2 m.rocof.toNat ++
      (m.analogs.flatMap (fun a => beBytes 2 a.toNat) ++ (beBytes 2 m.digital.toNat ++ []))))
    have magnitude : fieldAt f.bytes (16 + 4 * i) 2 = m.phasors[i].magnitude.toNat % 256 ^ 2 := by
      rw [bytes, frameBytes_data]
      refine (same 0 2).trans ?_
      rw [Phasor.wire, List.append_assoc, fieldAt_head]
    have angle : fieldAt f.bytes (18 + 4 * i) 2 = m.phasors[i].angle.toNat % 256 ^ 2 := by
      have shift : 18 + 4 * i = 16 + (4 * i + 2) := by omega
      rw [bytes, shift, frameBytes_data]
      refine (same 2 2).trans ?_
      rw [Phasor.wire, List.append_assoc, fieldAt_skip le_rfl, Nat.sub_self, fieldAt_head]
    rw [QueuedFrame.phasor, magnitude, angle, ofNat_mod_toNat, ofNat_mod_toNat]
  have analogs : (List.range m.analogs.length).map
      (fun i => BitVec.ofNat 16 (fieldAt f.bytes (20 + 4 * m.phasors.length + 2 * i) 2)) = m.analogs := by
    refine map_range_eq rfl fun i hi => ?_
    obtain ⟨tail, same⟩ := fieldAt_flatMap (g := fun a : BitVec 16 => beBytes 2 a.toNat) (fun _ => beBytes_length 2 _) hi
      (beBytes 2 m.digital.toNat ++ [])
    rw [bytes, frameBytes_analogs]
    refine (congrArg (BitVec.ofNat 16) (same 0 2)).trans ?_
    rw [fieldAt_head, ofNat_mod_toNat]
  have freq : fieldAt f.bytes (16 + 4 * m.phasors.length) 2 = m.freqDev.toNat % 256 ^ 2 := by
    rw [bytes]
    exact (frameBytes_freq id soc quality frac flags m 0 2).trans (fieldAt_head 2 _ _)
  have rocof : fieldAt f.bytes (18 + 4 * m.phasors.length) 2 = m.rocof.toNat % 256 ^ 2 := by
    have shift : 18 + 4 * m.phasors.length = 16 + 4 * m.phasors.length + 2 := by omega
    rw [bytes, shift, frameBytes_freq, fieldAt_skip le_rfl, Nat.sub_self, fieldAt_head]
  have digital : fieldAt f.bytes (20 + 4 * m.phasors.length + 2 * m.analogs.length) 2 = m.digital.toNat % 256 ^ 2 := by
    rw [bytes, frameBytes_analogs]
    refine (fieldAt_append (length_flatMap_of_size (fun _ => beBytes_length 2 _) _) _ 0 2).trans ?_
    rw [fieldAt_head]
  rw [QueuedFrame.measured, phasors, analogs, freq, rocof, digital, ofNat_mod_toNat, ofNat_mod_toNat, ofNat_mod_toNat]

theorem frameBytes_length (id soc quality frac : Nat) (flags : BitVec 16) (m : Measured) :
    (frameBytes id soc quality frac flags m).length = 22 + 4 * m.phasors.length + 2 * m.analogs.length := by
  have phasors := length_flatMap_of_size Phasor.wire_length m.phasors
  have analogs := length_flatMap_of_size (g := fun a : BitVec 16 => beBytes 2 a.toNat) (fun _ => beBytes_length 2 _)
    m.analogs
  rw [frameBytes_eq]
  simp only [Measured.wire, List.length_append, List.length_nil, beBytes_length, phasors, analogs]
  omega

/-- Settles O21: each field is read behind the fields before it. -/
theorem frameLayoutReadsBack : Obligations.FrameLayoutReadsBack := by
  unfold Obligations.FrameLayoutReadsBack
  intro id soc quality frac length flags m arrival f hid hsoc hquality hfrac hp ha hlength hf
  have bytes : f.bytes = frameBytes id soc quality frac flags m := by rw [hf]
  have header := bytes.trans (frameBytes_eq id soc quality frac flags m)
  refine ⟨frameBytes_length id soc quality frac flags m, ?_, ?_, ?_, ?_, ?_, ?_, ?_, measured_frameBytes bytes⟩
  · have long : ¬ f.length < 4 := by rw [hf]; exact Nat.not_lt.2 hlength
    rw [QueuedFrame.streamId, if_neg long, header, fieldAt_head]
    omega
  · rw [QueuedFrame.soc, header, fieldAt_skip (by omega), fieldAt_head]
    omega
  · rw [QueuedFrame.quality, header, fieldAt_skip (by omega), fieldAt_skip (by omega), fieldAt_head]
    omega
  · rw [QueuedFrame.frac, header, fieldAt_skip (by omega), fieldAt_skip (by omega), fieldAt_skip (by omega),
      fieldAt_head]
    omega
  · rw [QueuedFrame.flags, header, fieldAt_skip (by omega), fieldAt_skip (by omega), fieldAt_skip (by omega),
      fieldAt_skip (by omega), fieldAt_head, ofNat_mod_toNat]
  · rw [QueuedFrame.p, header, fieldAt_skip (by omega), fieldAt_skip (by omega), fieldAt_skip (by omega),
      fieldAt_skip (by omega), fieldAt_skip (by omega), fieldAt_head]
    omega
  · rw [QueuedFrame.a, header, fieldAt_skip (by omega), fieldAt_skip (by omega), fieldAt_skip (by omega),
      fieldAt_skip (by omega), fieldAt_skip (by omega), fieldAt_skip (by omega), fieldAt_head]
    omega

end Sys2Proof.Machine

/-! The intake: frames that join and are taken, the disposition of a frame, and its effects. -/

namespace Sys2Proof.Machine

/-- Settles O20. -/
theorem framesJoinAreDroppedAndTaken : Obligations.FramesJoinAreDroppedAndTaken := by
  unfold Obligations.FramesJoinAreDroppedAndTaken
  refine ⟨fun bytes s => ⟨fun held => if_pos held, fun released room => ?_, fun released full => ?_⟩,
    fun s => ⟨fun f rest => State.takeFrame_takes, State.takeFrame_none, State.editInFlight_iff,
      execFrameHandling_takes s⟩⟩
  · show execFrameOffered bytes s = _
    rw [execFrameOffered, if_neg (by rw [released]; nofun)]
    exact if_pos room
  · show execFrameOffered bytes s = _
    rw [execFrameOffered, if_neg (by rw [released]; nofun)]
    exact if_neg (Nat.not_lt.2 full)

/-! ### Frames that are only counted (R57, R62, R64, R77) -/

/-- R54: the handling of a frame whose disposition is `d`. -/
theorem exec_frameHandling {s : State} {f : QueuedFrame} {d : Disposition} (handling : s.handling = some f)
    (disposed : s.dispose f = d) : exec .frameHandling s =
      .next (State.takeFrame (State.applyDisposition d { s with handling := none })) := by
  rw [← disposed]
  exact execFrameHandling_some handling

theorem State.dispose_unknown {s : State} {f : QueuedFrame} (unknown : ¬ s.knows f.streamId) : s.dispose f = .unknown := by
  rw [State.dispose, State.lookup_eq_none.2 unknown]

/-- Settles O22. -/
theorem framesThatAreOnlyCounted : Obligations.FramesThatAreOnlyCounted := by
  unfold Obligations.FramesThatAreOnlyCounted
  refine ⟨⟨fun f short => if_pos short, fun f s handling unknown =>
    exec_frameHandling handling (State.dispose_unknown unknown)⟩,
    fun c => ⟨rfl, rfl, rfl, rfl, rfl, rfl, rfl, rfl, rfl⟩,
    fun f s i handling => ⟨fun dc mem disposed => ?_, exec_frameHandling handling⟩⟩
  rw [exec_frameHandling handling disposed]
  simp only [List.mem_cons, List.not_mem_nil, or_false] at mem
  rcases mem with rfl | rfl | rfl | rfl | rfl | rfl <;> rfl

/-! ### The disposition of a frame (R58 to R61) -/

theorem QueuedFrame.fits_iff {f : QueuedFrame} {r : Record} :
    f.fits r = true ↔ f.length = 22 + 4 * r.p + 2 * r.a ∧ f.p = r.p ∧ f.a = r.a ∧ f.frac < r.tb := by
  simp only [QueuedFrame.fits, Bool.and_eq_true, beq_iff_eq, decide_eq_true_eq, and_assoc]

/-- R58 to R60: a frame that passes the checks of its record comes to the arithmetic. -/
theorem State.dispose_checked {s : State} {f : QueuedFrame} {i : Nat} (known : s.lookup f.streamId = some i)
    (awake : (s.record i).state ≠ .suspended) (fits : f.fits (s.record i) = true) (going : s.run ≠ .stopped) :
    (align s.settings (s.record i) f = .decimated → s.dispose f = .decimated i) ∧
      (align s.settings (s.record i) f = .misaligned → s.dispose f = .misaligned i) ∧
      ∀ al, align s.settings (s.record i) f = .aligned al → s.dispose f = s.windowDecision i al := by
  have checked : ¬ f.fits (s.record i) = false := by rw [fits]; nofun
  refine ⟨fun answer => ?_, fun answer => ?_, fun al answer => ?_⟩
  all_goals simp only [State.dispose, known, if_neg awake, if_neg checked, if_neg going, answer]

/-- R116: the window's answer to a frame of an epoch of the run, whose OPEN slot is there or not. -/
theorem State.windowDecision_late {s : State} {al : Aligned} {n : Newest} (i : Nat) (newest : s.newest = some n)
    (reached : al.epoch.key s.settings.rout ≤ n.epoch.key s.settings.rout)
    (shut : s.window.find? (Slot.openFor s.settings.rout (al.epoch.key s.settings.rout)) = none) :
    s.windowDecision i al = .late i al := by
  simp only [State.windowDecision, newest, shut]
  exact if_neg (Nat.not_lt.2 reached)

theorem State.windowDecision_found {s : State} {al : Aligned} {n : Newest} {sl : Slot} (i : Nat)
    (newest : s.newest = some n) (reached : al.epoch.key s.settings.rout ≤ n.epoch.key s.settings.rout)
    (found : s.window.find? (Slot.openFor s.settings.rout (al.epoch.key s.settings.rout)) = some sl) :
    s.windowDecision i al = if sl.hasEntry i then .duplicate i else .placed i al := by
  simp only [State.windowDecision, newest, found]
  exact if_neg (Nat.not_lt.2 reached)

/-- R108, R116: at most one OPEN slot of the window is of an epoch, so it is the one that is found. -/
theorem State.find_openFor {s : State} {sl : Slot} {key : Nat} (ordered : s.InOrder) (mem : sl ∈ s.window)
    (is_key : sl.epoch.key s.settings.rout = key) (opened : sl.status = .opened) :
    s.window.find? (Slot.openFor s.settings.rout key) = some sl := by
  have open_ : sl.openFor s.settings.rout key = true := Slot.openFor_iff.2 ⟨is_key, opened⟩
  cases found : s.window.find? (Slot.openFor s.settings.rout key) with
  | none => exact absurd open_ (List.find?_eq_none.1 found sl mem)
  | some sl' =>
    have distinct : (s.window.map (fun sl => sl.epoch.key s.settings.rout)).Nodup :=
      (State.window_ascending (State.inOrder_iff.1 ordered).1).imp Nat.ne_of_lt
    have key' := (Slot.openFor_iff.1 (List.find?_some found)).1
    exact congrArg some
      (List.inj_on_of_nodup_map distinct (List.mem_of_find?_eq_some found) mem (key'.trans is_key.symm))

/-- Settles O23. -/
theorem dispositionOfAFrame : Obligations.DispositionOfAFrame := by
  unfold Obligations.DispositionOfAFrame
  refine ⟨fun f s i known => ?_, fun g r f out delta out_eq delta_eq => ?_, fun s i al => ⟨fun beyond => ?_, fun n newest reached => ?_⟩⟩
  · refine ⟨fun suspended => ?_, fun awake unfit => ?_, fun awake length p a frac => ?_⟩
    · simp only [State.dispose, known, if_pos suspended]
    · have misfit : f.fits (s.record i) = false := by
        refine Bool.eq_false_iff.2 fun fits => ?_
        obtain ⟨length, p, a, frac⟩ := QueuedFrame.fits_iff.1 fits
        rcases unfit with h | h | h | h
        · exact h length
        · exact h p
        · exact h a
        · exact Nat.not_lt.2 h frac
      simp only [State.dispose, known, if_neg awake, if_pos misfit]
    · have fits : f.fits (s.record i) = true := QueuedFrame.fits_iff.2 ⟨length, p, a, frac⟩
      refine ⟨fun stopped => ?_, State.dispose_checked known awake fits⟩
      have checked : ¬ f.fits (s.record i) = false := by rw [fits]; nofun
      simp only [State.dispose, known, if_neg awake, if_neg checked, if_pos stopped]
  · subst out_eq delta_eq
    refine ⟨fun none => ?_, fun k some => ⟨fun far => ?_, fun flag near => ?_⟩⟩
    · simp only [align, none]
    · simp only [align, some, far]
    · simp only [align, some, near]
  · unfold State.windowDecision
    split
    · rfl
    next n newest => exact if_pos (beyond n newest)
  · refine ⟨fun shut => ?_, fun sl ordered mem is_key opened => ?_⟩
    · refine State.windowDecision_late i newest reached (List.find?_eq_none.2 fun sl mem open_ => ?_)
      obtain ⟨is_key, opened⟩ := Slot.openFor_iff.1 open_
      exact shut sl mem is_key opened
    · rw [State.windowDecision_found i newest reached (State.find_openFor ordered mem is_key opened)]
      exact ⟨fun has => if_pos has, fun new => if_neg (by rw [new]; nofun)⟩

/-! ### LATE and PLACED frames (R63, R117, R119, R121) -/

/-- R121: the test of a slot that is OPEN. -/
theorem Slot.testComplete_opened {sl : Slot} (opened : sl.status = .opened) :
    sl.testComplete = if sl.isComplete = true then { sl with status := .due .complete } else sl := by
  rw [Slot.testComplete, Slot.release_opened _ opened]

/-- Settles O24. -/
theorem lateAndPlacedFrames : Obligations.LateAndPlacedFrames := by
  unfold Obligations.LateAndPlacedFrames
  refine ⟨insertEntry_perm, fun f s i al handling => ⟨exec_frameHandling handling, fun r placed teach => ?_⟩⟩
  subst teach
  rw [exec_frameHandling handling placed]
  have joined (sl : Slot) :
      (if Slot.openFor s.settings.rout (al.epoch.key s.settings.rout) sl then
        sl.place i ((s.record i).teach al false) al else sl) =
      if sl.epoch.key s.settings.rout = al.epoch.key s.settings.rout ∧ sl.status = .opened then
        let filled := { sl with entries := insertEntry (entryOf i ((s.record i).teach al false) al sl) sl.entries }
        if filled.isComplete = true then { filled with status := .due .complete } else filled
      else sl := by
    by_cases opened : sl.epoch.key s.settings.rout = al.epoch.key s.settings.rout ∧ sl.status = .opened
    · rw [if_pos opened, if_pos (Slot.openFor_iff.2 opened)]
      exact Slot.testComplete_opened opened.2
    · rw [if_neg opened, if_neg fun h => opened (Slot.openFor_iff.1 h)]
  refine congrArg (fun window => Host.Outcome.next (State.takeFrame (State.beginEmission { s with
    handling := none
    records := s.records.set i { (s.record i).teach al false with held := ((s.record i).teach al false).held + 1 }
    window }))) (List.map_congr_left fun sl _ => joined sl)

end Sys2Proof.Machine

/-! Directory edits, emission and transmission. -/

namespace Sys2Proof.Machine

/-! ### Directory edits (R10, R18, R29) -/

/-- Settles O30. -/
theorem directoryEditsComplete : Obligations.DirectoryEditsComplete := by
  unfold Obligations.DirectoryEditsComplete
  refine ⟨fun s kind tag i g edit idle => ?_, fun s kind tag id i edit idle => ?_⟩
  · refine ⟨insertPair g.streamId i s.directory, insertPair_perm _ _ _, insertPair_ascending, ?_⟩
    show execInsertionEditCompletion s = _
    simp only [execInsertionEditCompletion, edit]
    exact if_pos idle
  · exact execRemovalEditCompletion_idle edit idle

/-! ### Emission (R125, R126, R144) -/

/-- Settles O31. -/
theorem emissionBegins : Obligations.EmissionBegins := by
  unfold Obligations.EmissionBegins
  refine fun s => ⟨fun sl rest window due room => ?_, fun none => congrArg _ (State.beginEmission_none none)⟩
  set release : Nat → Record → Record := fun i r => if sl.hasEntry i then r.releaseHeld else r with release_eq
  refine ⟨mapFrom release 0 s.records, congrArg _ (State.beginEmission_takes window due room), mapFrom_length _ _ _,
    fun i hi => ?_⟩
  have changed := State.record_mapRecords release s i
  rw [if_pos hi] at changed
  exact changed

theorem EngineCounters.bumpSet_eq (c : EngineCounters) (cause : ReleaseCause) : c.bumpSet cause = { c with
    sets := min (c.sets + 1) 4294967295
    complete := if cause = .complete then min (c.complete + 1) 4294967295 else c.complete
    deadline := if cause = .deadline then min (c.deadline + 1) 4294967295 else c.deadline
    windowFull := if cause = .windowFull then min (c.windowFull + 1) 4294967295 else c.windowFull
    flush := if cause = .flush then min (c.flush + 1) 4294967295 else c.flush } := by
  cases cause <;> rfl

theorem exec_emissionCompletion {s : State} {sl : Slot} (emitting : s.emission = some sl) : exec .emissionCompletion s =
    .next (State.endDrain (State.beginTransmission (State.beginEmission { s with
      emission := none, egress := s.egress ++ [buildSet s.settings.rout sl]
      counters := s.counters.bumpSet sl.cause }))) := by
  show execEmissionCompletion s = _
  simp only [execEmissionCompletion, emitting]

/-- R144: after the next emission has begun, a slot or an emission is left exactly where the window held a slot. -/
theorem State.beginEmission_leaves {s : State} (idle : s.emission = none) :
    (s.beginEmission.window = [] ∧ s.beginEmission.emission = none) ↔ s.window = [] := by
  constructor
  · rintro ⟨window, emission⟩
    rcases s.beginEmission_cases with same | ⟨sl, rest, -, -, -, taken⟩
    · rwa [same] at window
    · rw [taken] at emission
      cases emission
  · intro window
    rw [State.beginEmission_none (.inl window)]
    exact ⟨window, idle⟩

/-- Settles O32. -/
theorem emissionCompletes : Obligations.EmissionCompletes := by
  unfold Obligations.EmissionCompletes
  intro s sl cause emitting due
  have is_cause : sl.cause = cause := by simp only [Slot.cause, due]
  rw [exec_emissionCompletion emitting, is_cause]
  set u : State := { s with
    emission := none, egress := s.egress ++ [buildSet s.settings.rout sl], counters := s.counters.bumpSet cause } with hu
  set v := u.beginEmission.beginTransmission with hv
  have window : v.window = u.beginEmission.window := State.beginTransmission_window _
  have emission : v.emission = u.beginEmission.emission := State.beginTransmission_emission _
  have run : v.run = s.run := (State.beginTransmission_run _).trans (State.beginEmission_run u)
  have causes : v.causes = s.causes := (State.beginTransmission_causes _).trans (State.beginEmission_causes u)
  have left : (v.window = [] ∧ v.emission = none) ↔ s.window = [] := by
    rw [window, emission]
    exact State.beginEmission_leaves (s := u) rfl
  refine ⟨⟨s.counters.bumpSet cause, rfl, EngineCounters.bumpSet_eq _ _⟩, fun draining empty => ?_, fun more => ?_⟩
  · obtain ⟨none_left, none_emitting⟩ := left.2 empty
    refine ⟨v.endDrain, rfl, ?_⟩
    rw [State.endDrain_ends (run.trans draining) none_left none_emitting, ← causes]
    exact ⟨rfl, none_emitting, rfl⟩
  · refine ⟨v.endDrain, rfl, ?_⟩
    have goes_on : v.run ≠ .draining ∨ v.window ≠ [] ∨ v.emission ≠ none := by
      rw [run]
      exact more.imp_right fun full => not_and_or.1 (mt left.1 full)
    rw [State.endDrain_none goes_on]
    exact ⟨run, causes⟩

/-! ### Transmission (R152, R153) -/

/-- Settles O34. -/
theorem transmissionFollowsReady : Obligations.TransmissionFollowsReady := by
  unfold Obligations.TransmissionFollowsReady
  intro s
  refine ⟨fun waits idle ready => congrArg _ (State.beginTransmission_begins waits idle ready),
    fun none => congrArg _ (State.beginTransmission_none none), fun sending ready => ?_, fun waits => ?_, fun empty => ?_, rfl⟩
  · rw [← List.drop_one]
    exact if_pos ⟨sending, ready⟩
  · show Host.Outcome.next (State.beginTransmission { s with ready := true }) = _
    by_cases sending : s.transmitting = true
    · rw [State.beginTransmission_none (s := { s with ready := true }) (.inr (.inl sending)), ← sending]
    · rw [State.beginTransmission_begins (s := { s with ready := true }) waits (Bool.eq_false_iff.2 sending) rfl]
  · exact congrArg _ (State.beginTransmission_none (s := { s with ready := true }) (.inl empty))

end Sys2Proof.Machine

/-! The management link: reception, the start of a command, the answer, and the form checks. -/

namespace Sys2Proof.Machine

/-! ### Reception (R162 to R164, R193) -/

/-- R193: fewer than the three bytes of a header are no message. -/
theorem Message.ofWire_header {bytes : List Byte} (h : bytes.length < 3) : Message.ofWire bytes = none := by
  cases whole : Message.ofWire bytes with
  | none => rfl
  | some m =>
    obtain ⟨kind, tag, len, body, rfl, -, -⟩ := Message.ofWire_eq_some.1 whole
    simp only [List.length_cons] at h
    omega

/-- R162, R193: the message that its last byte completes. -/
theorem Message.ofWire_whole {kind tag len : Byte} {body : List Byte} (whole : body.length = len.toNat) :
    Message.ofWire (kind :: tag :: len :: body) = some { kind, tag, len := len.toNat, body := body.take 32 } := by
  refine Message.ofWire_eq_some.2 ⟨kind, tag, len, body, rfl, whole.ge, ?_⟩
  rw [← whole, List.take_length]

/-- R164: the port's test, for a port that a command holds and for one that is idle. -/
theorem State.startOldest_tests (u : State) :
    (u.port ≠ .idle → Host.Outcome.next u.startOldest = (.next u : Host.Outcome State Fault Refusal)) ∧
      ∀ m rest, u.offers m rest → Host.Outcome.next u.startOldest = exec m.command u :=
  ⟨fun busy => congrArg _ (State.startOldest_none (.inl busy)), fun _ _ offers => (State.exec_command offers).symm⟩

theorem execAnswerSent_answering {s : State} {a : Answer} (sending : s.port = .answering a) :
    execAnswerSent s = .next (State.startOldest { s with port := .idle }) := by
  simp only [execAnswerSent, sending]

/-- Settles O35. -/
theorem messagesJoinAndAnswersEnd : Obligations.MessagesJoinAndAnswersEnd := by
  unfold Obligations.MessagesJoinAndAnswersEnd
  intro s
  refine ⟨State.mgmtReady_iff, rfl, fun b bytes t row => ?_, fun b held => congrArg _ (State.receiveByte_held held b),
    fun b ready short => ?_, fun b kind tag len body ready wire => ⟨fun short => ?_, fun u whole hu => ?_⟩,
    fun kind tag body u released fresh room short hu => ?_, fun a u sending hu => ⟨fun none => ?_, fun m rest offers => ?_⟩⟩
  · cases row
    rfl
  · refine congrArg _ (State.receiveByte_joins ready (Message.ofWire_header ?_))
    rw [List.length_append, List.length_singleton]
    omega
  · refine congrArg _ (State.receiveByte_joins ready ?_)
    rw [wire]
    exact if_neg (Nat.not_le.2 short)
  · have port : u.port = s.port := (congrArg State.port hu :)
    have received : exec (.managementBytes [b]) s = .next u.startOldest := by
      rw [hu]
      exact congrArg Host.Outcome.next (State.receiveByte_ends ready
        ((congrArg Message.ofWire wire).trans (Message.ofWire_whole whole)))
    rw [received, ← port]
    exact u.startOldest_tests
  · have port : u.port = s.port := (congrArg State.port hu :)
    rw [exec_messageReceived, execMessageReceived_eq released fresh room short, ← hu, ← port]
    exact u.startOldest_tests
  · subst hu
    exact (execAnswerSent_answering sending).trans (congrArg _ (State.startOldest_none (.inr none)))
  · subst hu
    exact (execAnswerSent_answering sending).trans (State.exec_command offers).symm

/-! ### The row of a command at an offered message (R164, R165) -/

/-- R164: at an offered message, the row of a command carries it out, or does nothing. -/
theorem exec_managementCommand_offers {c : Instr} (hc : c ∈ managementCommands) {s : State} {m : Message}
    {rest : List Message} (offers : s.offers m rest) :
    exec c s = .next s ∨ m.rowOf c ∧ exec c s = .next (m.carryOut { s with queue := rest }) := by
  obtain ⟨starts, body, row, names⟩ := exists_starts_of_managementCommand hc
  rw [row, State.startCommand_offers offers]
  split_ifs with named
  · obtain ⟨own, same⟩ := names m named
    rw [same]
    exact .inr ⟨own, rfl⟩
  · exact .inl rfl

/-! ### The answer (R165, R166) -/

/-- R165: what the port holds after the command of `m` has started. -/
def Message.holdsPort (m : Message) (port : MgmtPort) : Prop :=
  (∃ a, port = .answering a ∧ a.kind = m.kind ∧ a.tag = m.tag ∧
    (a.status = .done ∨ a.ret = .none ∨ (a.status = .rate ∧ m.kind.toNat = 2 ∧ ∃ i, a.ret = .index i))) ∨
  ∃ edit, port = .editing m.kind m.tag edit ∧ (m.kind.toNat = 16 ∨ m.kind.toNat = 21)

theorem Message.holdsPort_done (m : Message) (ret : ReturnFields) :
    m.holdsPort (.answering { kind := m.kind, tag := m.tag, status := .done, ret }) :=
  .inl ⟨_, rfl, rfl, rfl, .inl rfl⟩

theorem Message.holdsPort_bare (m : Message) (status : Status) :
    m.holdsPort (.answering { kind := m.kind, tag := m.tag, status, ret := .none }) :=
  .inl ⟨_, rfl, rfl, rfl, .inr (.inl rfl)⟩

theorem Message.Effect.port {m : Message} {s u : State} (h : m.Effect s u) : m.holdsPort u.port := by
  cases h
  case refused status ret _ _ bare =>
    rcases bare with none | ⟨rate, kind, i, index⟩
    · exact .inl ⟨_, rfl, rfl, rfl, .inr (.inl none)⟩
    · exact .inl ⟨_, rfl, rfl, rfl, .inr (.inr ⟨rate, kind, i, index⟩)⟩
  case armed => exact m.holdsPort_bare _
  case amended => exact m.holdsPort_bare _
  case inserting kind _ _ _ _ _ => exact .inr ⟨_, rfl, .inl kind⟩
  case removing kind _ => exact .inr ⟨_, rfl, .inr kind⟩
  all_goals exact m.holdsPort_done _

/-- R166: a refusal changes nothing but the port. -/
theorem Message.Effect.of_refusal {m : Message} {s u : State} {a : Answer} (h : m.Effect s u) (port : u.port = .answering a)
    (notDone : a.status ≠ .done) (notDeferred : a.status ≠ .deferred) : u = { s with port := .answering a } := by
  cases h <;> cases port
  case refused => rfl
  case amended accepted => exact (accepted.elim notDone notDeferred).elim
  case armed => exact absurd rfl notDeferred
  all_goals exact absurd rfl notDone

/-- R173: a STOP that the row of STOP FLUSH starts, and one that it does not. -/
theorem exec_stopFlush_offers {s : State} {m : Message} {rest : List Message} (offers : s.offers m rest)
    (kind : m.kind.toNat = 7) : exec .stopFlush s =
      .next (if m.len = 1 ∧ fieldAt m.body 0 1 = 0 then s else stopCommand m { s with queue := rest }) := by
  rw [RowStarts.stopFlush.row, State.startCommand_offers offers]
  by_cases drain : m.len = 1 ∧ fieldAt m.body 0 1 = 0
  · simp [Message.isKind, kind, drain]
  · rw [if_neg drain, if_pos (by simpa [Message.isKind, kind] using not_and_or.1 drain)]

theorem exec_stopDrain_offers {s : State} {m : Message} {rest : List Message} (offers : s.offers m rest)
    (kind : m.kind.toNat = 7) : exec .stopDrain s =
      .next (if m.len = 1 ∧ fieldAt m.body 0 1 = 1 then s else stopCommand m { s with queue := rest }) := by
  rw [RowStarts.stopDrain.row, State.startCommand_offers offers]
  by_cases flush : m.len = 1 ∧ fieldAt m.body 0 1 = 1
  · simp [Message.isKind, kind, flush]
  · rw [if_neg flush, if_pos (by simpa [Message.isKind, kind] using not_and_or.1 flush)]

/-- Settles O36. -/
theorem oneCommandAtATime : Obligations.OneCommandAtATime := by
  unfold Obligations.OneCommandAtATime
  refine ⟨fun c hc s => exec_managementCommand_none hc, fun s m rest offers => ?_, fun c hc s m rest offers other noFlush => ?_,
    fun s m rest offers kind => ⟨fun len drain => ?_, fun wrong => ?_⟩⟩
  · have effect := m.carryOut_effect { s with queue := rest }
    refine ⟨_, State.exec_command offers, ?_⟩
    rw [State.startOldest_offers offers]
    exact ⟨effect.link.1, effect.port⟩
  · exact (exec_managementCommand_offers hc offers).resolve_right fun ⟨own, _⟩ => own.elim other noFlush
  · rw [exec_stopFlush_offers offers kind, if_pos ⟨len, drain⟩]
  · rw [exec_stopFlush_offers offers kind, exec_stopDrain_offers offers kind]
    have neither (mode : Nat) (small : mode ≤ 1) : ¬ (m.len = 1 ∧ fieldAt m.body 0 1 = mode) := by
      rintro ⟨len, is_mode⟩
      exact wrong.elim (absurd len) (by omega)
    rw [if_neg (neither 0 (by omega)), if_neg (neither 1 le_rfl)]

/-- Settles O37. -/
theorem refusedCommandsChangeNothing : Obligations.RefusedCommandsChangeNothing := by
  unfold Obligations.RefusedCommandsChangeNothing
  intro c hc s t m rest a offers row port notDone notDeferred
  rcases exec_managementCommand_offers hc offers with none | ⟨-, carried⟩
  · rw [none] at row
    cases row
    rw [offers.1] at port
    cases port
  · rw [carried] at row
    cases row
    exact (m.carryOut_effect { s with queue := rest }).of_refusal port notDone notDeferred

/-! ### The form checks (R166, R168 to R179) -/

theorem configureAlignmentCommand_noItems {m : Message} (h : m.items 0 16 22 = none ∨ m.items 0 16 22 = some [])
    (s : State) : configureAlignmentCommand m s = s.answer m .malformed .none := by
  rcases h with h | h <;> simp only [configureAlignmentCommand, h]

theorem registerStreamCommand_noItems {m : Message} (h : m.items 11 2 9 = none) (s : State) :
    registerStreamCommand m s = s.answer m .malformed .none := by
  simp only [registerStreamCommand, h]

theorem amendStreamCommand_noItems {m : Message} (h : m.items 4 1 9 = none) (s : State) :
    amendStreamCommand m s = s.answer m .malformed .none := by
  simp only [amendStreamCommand, h]

theorem stopCommand_badLength {m : Message} (h : m.len ≠ 1) (s : State) :
    stopCommand m s = s.answer m .malformed .none := withLength_ne h _ s

/-- R166: a body of a length that is not the command's. -/
theorem exec_badLength {s : State} {m : Message} {rest : List Message} (offers : s.offers m rest) {row : Instr × Nat × Nat}
    (mem : row ∈ fixedLengths) (kind : m.kind.toNat = row.2.1) (bad : m.len ≠ row.2.2) :
    exec row.1 s = .next (s.replied m rest .malformed .none) := by
  simp only [fixedLengths, List.mem_cons, List.not_mem_nil, or_false] at mem
  rcases mem with rfl | rfl | rfl | rfl | rfl | rfl | rfl | rfl | rfl | rfl | rfl | rfl | rfl | rfl | rfl | rfl | rfl
  case inr.inr.inr.inr.inl =>
    rw [exec_stopDrain_offers offers kind, if_neg fun h => bad h.1, stopCommand_badLength bad]
    rfl
  case inr.inr.inr.inr.inr.inl =>
    rw [exec_stopFlush_offers offers kind, if_neg fun h => bad h.1, stopCommand_badLength bad]
    rfl
  all_goals exact congrArg Host.Outcome.next (State.startCommand_badLength offers kind bad _)

/-- Settles O39. -/
theorem malformedForms : Obligations.MalformedForms := by
  unfold Obligations.MalformedForms
  intro s m rest offers
  refine ⟨fun unknown => ?_, fun row mem kind bad => exec_badLength offers mem kind bad, fun kind none => ?_,
    fun kind none => ?_, fun kind none => ?_, fun kind none => ?_, fun fixed lo hi outside => ?_⟩
  · have starts : (!m.knownKind) = true := by
      simp only [Message.knownKind, Bool.not_eq_true', Bool.or_eq_false_iff, Bool.and_eq_false_iff,
        decide_eq_false_iff_not]
      omega
    rw [RowStarts.malformed.row, State.startCommand_offers offers, if_pos starts]
    rfl
  · exact congrArg _ ((State.startCommand_isKind offers kind _).trans (configureAlignmentCommand_noItems none _))
  · exact congrArg _ ((State.startCommand_isKind offers kind _).trans (configureTimebaseCommand_noItems none _))
  · exact congrArg _ ((State.startCommand_isKind offers kind _).trans (registerStreamCommand_noItems none _))
  · exact congrArg _ ((State.startCommand_isKind offers kind _).trans (amendStreamCommand_noItems none _))
  · refine if_neg fun h => ?_
    have : m.len ≤ 32 := h.2
    omega

end Sys2Proof.Machine

/-! Item lists (section 9.4): the table of sizes and ranges, and the reading of a list. -/

namespace Sys2Proof.Machine

/-! ### The table of section 9.4 -/

/-- Section 9.4's codes, with the sizes of their values. -/
def itemSizes : List (Nat × Nat) :=
  [(1, 1), (2, 1), (3, 2), (4, 2), (5, 1), (6, 1), (7, 1), (8, 2), (9, 1), (10, 1), (11, 3), (12, 1), (13, 1),
    (16, 1), (17, 1), (18, 1), (19, 4), (20, 4), (21, 4), (22, 1), (24, 4), (25, 4), (26, 2)]

theorem itemSize_none {code : Nat} (h : 27 ≤ code) : itemSize code = none := by
  unfold itemSize
  split
  any_goals omega
  rfl

theorem itemSize_iff (code size : Nat) : itemSize code = some size ↔ (code, size) ∈ itemSizes := by
  constructor
  · intro h
    by_cases small : code < 27
    · have table : ∀ code < 27, ∀ size ∈ itemSize code, (code, size) ∈ itemSizes := by decide
      exact table code small size h
    · rw [itemSize_none (Nat.not_lt.1 small)] at h
      cases h
  · have table : ∀ row ∈ itemSizes, itemSize row.1 = some row.2 := by decide
    exact table (code, size)

/-- The codes of the table are bytes. -/
theorem itemSize_code_lt {code size : Nat} (h : itemSize code = some size) : code < 256 := by
  by_contra large
  rw [itemSize_none (by omega)] at h
  cases h

/-! ### Reading a list (R168) -/

/-- R168: an item of the table, its value one that its size admits. -/
def Item.writable (item : Item) : Prop := ∃ size, itemSize item.1 = some size ∧ item.2 < 256 ^ size

/-- The bytes of a list of items. -/
def wireOf (items : List Item) : List Byte := items.flatMap (fun item => Item.wire ((itemSize item.1).getD 0) item)

theorem wireOf_cons {item : Item} {size : Nat} (sized : itemSize item.1 = some size) (items : List Item) :
    wireOf (item :: items) = BitVec.ofNat 8 item.1 :: (beBytes size item.2 ++ wireOf items) := by
  rw [wireOf, List.flatMap_cons, sized]
  rfl

theorem hasCode_eq_false {code : Nat} {items : List Item} : hasCode code items = false ↔ code ∉ items.map (·.1) := by
  simp only [hasCode, List.any_eq_false, beq_iff_eq, List.mem_map, not_exists, not_and]

/-- The first item of a list, and the reading of what follows it. -/
theorem parseItemsFuel_cons {fuel : Nat} {code : Byte} {bytes : List Byte} {items : List Item} :
    parseItemsFuel (fuel + 1) (code :: bytes) = some items ↔ ∃ size rest, itemSize code.toNat = some size ∧
      size ≤ bytes.length ∧ parseItemsFuel fuel (bytes.drop size) = some rest ∧ code.toNat ∉ rest.map (·.1) ∧
      items = (code.toNat, beNat (bytes.take size)) :: rest := by
  constructor
  · intro h
    simp only [parseItemsFuel] at h
    split at h
    · cases h
    next size sized =>
      split_ifs at h with short
      split at h
      · cases h
      next rest read =>
        split_ifs at h with twice
        cases h
        exact ⟨size, rest, sized, Nat.not_lt.1 short, read, hasCode_eq_false.1 (Bool.eq_false_iff.2 twice), rfl⟩
  · rintro ⟨size, rest, sized, enough, read, once, rfl⟩
    simp only [parseItemsFuel, sized, if_neg (Nat.not_lt.2 enough), read, hasCode_eq_false.2 once]
    rfl

/-- No bytes are the empty list, and no other. -/
theorem parseItemsFuel_nil {fuel : Nat} {items : List Item} : parseItemsFuel fuel [] = some items ↔
    [] = wireOf items ∧ (items.map (·.1)).Nodup ∧ ∀ item ∈ items, item.writable := by
  have read : parseItemsFuel fuel [] = some [] := by unfold parseItemsFuel; rfl
  rw [read]
  constructor
  · rintro ⟨⟩
    exact ⟨rfl, .nil, nofun⟩
  · rintro ⟨wire, -, writable⟩
    cases items with
    | nil => rfl
    | cons item rest =>
      obtain ⟨size, sized, -⟩ := writable item List.mem_cons_self
      rw [wireOf_cons sized] at wire
      cases wire

/-- R168: a list is read as the items it was written from, and in every other case is malformed. -/
theorem parseItemsFuel_eq_some {fuel : Nat} {bytes : List Byte} (enough : bytes.length ≤ fuel) {items : List Item} :
    parseItemsFuel fuel bytes = some items ↔
      bytes = wireOf items ∧ (items.map (·.1)).Nodup ∧ ∀ item ∈ items, item.writable := by
  induction fuel generalizing bytes items with
  | zero =>
    rw [List.length_eq_zero_iff.1 (Nat.le_zero.1 enough)]
    exact parseItemsFuel_nil
  | succ fuel ih =>
    cases bytes with
    | nil => exact parseItemsFuel_nil
    | cons code bytes =>
      rw [List.length_cons, Nat.succ_le_succ_iff] at enough
      rw [parseItemsFuel_cons]
      constructor
      · rintro ⟨size, rest, sized, long, read, once, rfl⟩
        have left : (bytes.drop size).length ≤ fuel := by rw [List.length_drop]; omega
        obtain ⟨wire, nodup, writable⟩ := (ih left).1 read
        have taken : (bytes.take size).length = size := List.length_take_of_le long
        have value := beNat_lt (bytes.take size)
        have spelled := beBytes_beNat (bytes.take size)
        rw [taken] at value spelled
        refine ⟨?_, List.nodup_cons.2 ⟨once, nodup⟩, List.forall_mem_cons.2 ⟨⟨size, sized, value⟩, writable⟩⟩
        rw [wireOf_cons (item := (code.toNat, beNat (bytes.take size))) sized, ← wire, spelled, List.take_append_drop,
          BitVec.ofNat_toNat, BitVec.setWidth_eq]
      · rintro ⟨wire, nodup, writable⟩
        cases items with
        | nil => cases wire
        | cons item rest =>
          obtain ⟨⟨size, sized, value⟩, writable⟩ := List.forall_mem_cons.1 writable
          obtain ⟨once, nodup⟩ := List.nodup_cons.1 nodup
          rw [wireOf_cons sized] at wire
          obtain ⟨rfl, rfl⟩ := List.cons.inj wire
          have code : (BitVec.ofNat 8 item.1).toNat = item.1 :=
            (BitVec.toNat_ofNat ..).trans (Nat.mod_eq_of_lt (itemSize_code_lt sized))
          have length : (beBytes size item.2).length = size := beBytes_length size item.2
          rw [List.length_append, length] at enough
          refine ⟨size, rest, by rwa [code], by simp, ?_, by rwa [code], ?_⟩
          · rw [List.drop_left' length]
            exact (ih (by omega)).2 ⟨rfl, nodup, writable⟩
          · rw [code, List.take_left' length, beNat_beBytes_of_lt value]

theorem parseItems_eq_some {lo hi : Nat} {bytes : List Byte} {items : List Item} : parseItems lo hi bytes = some items ↔
    parseItemsFuel bytes.length bytes = some items ∧ ∀ item ∈ items, lo ≤ item.1 ∧ item.1 ≤ hi := by
  unfold parseItems
  cases read : parseItemsFuel bytes.length bytes with
  | none => simp
  | some found =>
    simp only [Option.ite_none_right_eq_some, Option.some.injEq, List.all_eq_true, Bool.and_eq_true, decide_eq_true_eq]
    constructor
    · rintro ⟨within, rfl⟩
      exact ⟨rfl, within⟩
    · rintro ⟨rfl, within⟩
      exact ⟨within, rfl⟩

theorem itemValue_eq_none {code : Nat} {items : List Item} :
    itemValue code items = none ↔ ∀ item ∈ items, item.1 ≠ code := by
  simp only [itemValue, Option.map_eq_none_iff, List.find?_eq_none, beq_iff_eq, ne_eq]

/-- R168: with no code twice, a list gives a code the value of its item, whatever the order. -/
theorem itemValue_eq_some {code v : Nat} {items : List Item} (once : (items.map (·.1)).Nodup) :
    itemValue code items = some v ↔ (code, v) ∈ items := by
  refine ⟨itemValue_mem, fun mem => ?_⟩
  cases value : itemValue code items with
  | none => exact absurd rfl (itemValue_eq_none.1 value (code, v) mem)
  | some v' =>
    have same : (code, v') = (code, v) := List.inj_on_of_nodup_map once (itemValue_mem value) mem rfl
    rw [(Prod.mk.inj same).2]

theorem itemValue_perm {code : Nat} {items items' : List Item} (perm : items.Perm items')
    (once : (items.map (·.1)).Nodup) : itemValue code items = itemValue code items' := by
  have once' : (items'.map (·.1)).Nodup := (perm.map _).nodup_iff.1 once
  refine Option.ext fun v => ?_
  rw [itemValue_eq_some once, itemValue_eq_some once', perm.mem_iff]

/-- Settles O38. -/
theorem itemListsReadBack : Obligations.ItemListsReadBack := by
  unfold Obligations.ItemListsReadBack
  refine ⟨⟨itemSize_iff, fun row mem => itemInRange_iff_bounds mem, itemInRange_filter, itemInRange_rate, fun v => ?_⟩,
    fun lo hi bytes items => ?_, fun code items items' perm once => itemValue_perm perm once,
    fun code items => ⟨fun v => itemValue_mem, itemValue_eq_none.1⟩, fun m fixed lo hi fits short => if_pos ⟨fits, short⟩⟩
  · rw [itemInRange_nominal]
    simp
  · rw [parseItems_eq_some, parseItemsFuel_eq_some le_rfl]
    constructor
    · rintro ⟨⟨wire, once, writable⟩, within⟩
      exact ⟨wire, once, fun item mem => ⟨(within item mem).1, (within item mem).2, writable item mem⟩⟩
    · rintro ⟨wire, once, each⟩
      exact ⟨⟨wire, once, fun item mem => (each item mem).2.2⟩, fun item mem => ⟨(each item mem).1, (each item mem).2.1⟩⟩

end Sys2Proof.Machine

/-! The engine commands: READ ENGINE, CONFIGURE ALIGNMENT, START and STOP, RESET ENGINE. -/

namespace Sys2Proof.Machine

/-! ### READ ENGINE (R169) -/

theorem State.report_eq (s : State) : s.report =
    { run := s.run, tbState := s.tb.state
      openSlots := (s.window.filter (fun sl => sl.status = .opened)).length
      dueSlots := (s.window.filter (fun sl => sl.status ≠ .opened)).length
      occupancy := s.egress.length
      freeRecords := (s.records.filter (fun r => r.state = .free)).length
      newestWait := s.newest.map (·.wait)
      settings := s.settings, tbSettings := s.tb.inForce, mask := s.mask, counters := s.counters } := by
  have opened : (fun sl : Slot => decide (sl.status = .opened)) = fun sl => sl.status == .opened := rfl
  have due : (fun sl : Slot => decide (sl.status ≠ .opened)) = fun sl => sl.status != .opened :=
    funext fun sl => decide_not
  have free : (fun r : Record => decide (r.state = .free)) = fun r => r.state == .free := rfl
  rw [State.report, opened, due, free, List.countP_eq_length_filter, List.countP_eq_length_filter,
    List.countP_eq_length_filter]

/-- Settles O40. -/
theorem readEngineReports : Obligations.ReadEngineReports := by
  unfold Obligations.ReadEngineReports
  intro s m rest r offers kind len hr
  rw [← State.report_eq] at hr
  subst hr
  have row : exec .readEngine s = .next (readEngineBody m { s with queue := rest }) :=
    congrArg Host.Outcome.next (State.startCommand_withLength offers kind len _)
  rw [row]
  refine ⟨fun keep => ?_, fun clear => ?_, fun wrong => ?_⟩
  · exact congrArg _ (if_pos keep)
  · exact congrArg _ ((if_neg (by omega)).trans (if_pos clear))
  · exact congrArg _ ((if_neg (by omega)).trans (if_neg (by omega)))

/-! ### CONFIGURE ALIGNMENT (R138) -/

/-- R136: the settings a list spells; the wait mode is FIXED for 0. -/
theorem AlignSettings.withItems_eq (items : List Item) (g : AlignSettings) : g.withItems items =
    { rout := (itemValue 16 items).getD g.rout, f0 := (itemValue 17 items).getD g.f0
      mode :=
        if itemValue 18 items = some 0 then .fixed else if itemValue 18 items = none then g.mode else .adaptive
      wFixed := (itemValue 19 items).getD g.wFixed, wMin := (itemValue 20 items).getD g.wMin
      wMax := (itemValue 21 items).getD g.wMax, margin := (itemValue 22 items).getD g.margin } := by
  have mode : ((itemValue 18 items).map modeOf).getD g.mode =
      if itemValue 18 items = some 0 then .fixed else if itemValue 18 items = none then g.mode else .adaptive := by
    cases itemValue 18 items with
    | none => rfl
    | some v => by_cases zero : v = 0 <;> simp [modeOf, zero]
  rw [AlignSettings.withItems, mode]

theorem all_inRange_eq_false {items : List Item} : items.all itemInRange = false ↔ ∃ item ∈ items, itemInRange item = false := by
  simp only [List.all_eq_false, Bool.not_eq_true]

theorem not_all_inRange_eq_false {items : List Item} (h : ∀ item ∈ items, itemInRange item = true) :
    ¬ items.all itemInRange = false := by
  rw [List.all_eq_true.2 h]
  nofun

/-- The lowest index of the registry at which a test of records holds. -/
theorem State.findIdx_eq_some {s : State} {p : Record → Bool} {i : Nat} (inside : i < s.records.length)
    (here : p (s.record i) = true) (lower : ∀ j < i, p (s.record j) = false) : s.records.findIdx? p = some i := by
  have at_index (j : Nat) (hj : j < s.records.length) : s.record j = s.records[j] :=
    State.record_eq_of_getElem? (List.getElem?_eq_getElem hj)
  refine List.findIdx?_eq_some_iff_getElem.2 ⟨inside, at_index i inside ▸ here, fun j hj => ?_⟩
  rw [← at_index j (hj.trans inside), lower j hj]
  nofun

theorem State.offender_lowest {s : State} {rout i : Nat} (inside : i < s.records.length)
    (taken : (s.record i).state ≠ .free) (unfit : rateCompatible (s.record i).rs rout = false)
    (lower : ∀ j < i, (s.record j).state = .free ∨ rateCompatible (s.record j).rs rout = true) :
    s.offender rout = some i := by
  refine State.findIdx_eq_some inside (by simp [taken, unfit]) fun j hj => ?_
  rcases lower j hj with free | fits
  · simp [free]
  · simp [fits]

theorem State.offender_eq_none {s : State} {rout : Nat}
    (fit : ∀ r ∈ s.records, r.state = .free ∨ rateCompatible r.rs rout = true) : s.offender rout = none := by
  refine List.findIdx?_eq_none_iff.2 fun r mem => ?_
  rcases fit r mem with free | fits
  · simp [free]
  · simp [fits]

/-- R138: a list in range, its bounds in order, meets the records. -/
theorem configureAlignmentBody_records {items : List Item} {g : AlignSettings} {s : State} (m : Message)
    (stopped : s.run = .stopped) (inRange : ∀ item ∈ items, itemInRange item = true) (settings : s.settings.withItems items = g)
    (ordered : g.wMin ≤ g.wMax) :
    (∀ i, s.offender g.rout = some i → configureAlignmentBody items m s = s.answer m .rate (.index i)) ∧
      (s.offender g.rout = none → configureAlignmentBody items m s = { s with settings := g }.answer m .done .none) := by
  subst settings
  have in_range := not_all_inRange_eq_false inRange
  refine ⟨fun i found => ?_, fun none => ?_⟩
  · simp only [configureAlignmentBody, if_neg (not_not.2 stopped), if_neg in_range, if_neg (Nat.not_lt.2 ordered), found]
  · simp only [configureAlignmentBody, if_neg (not_not.2 stopped), if_neg in_range, if_neg (Nat.not_lt.2 ordered), none]

/-- Settles O41. -/
theorem configureAlignmentChecksInOrder : Obligations.ConfigureAlignmentChecksInOrder := by
  unfold Obligations.ConfigureAlignmentChecksInOrder
  intro s m rest items g offers kind listed some_item hg
  rw [← AlignSettings.withItems_eq] at hg
  subst hg
  have row : exec .configureAlignment s = .next (configureAlignmentBody items m { s with queue := rest }) := by
    refine congrArg Host.Outcome.next ((State.startCommand_isKind offers kind _).trans ?_)
    obtain ⟨item, more, rfl⟩ := List.exists_cons_of_ne_nil some_item
    simp only [configureAlignmentCommand, listed]
  rw [row]
  refine ⟨fun going => congrArg _ (if_pos going), fun stopped wrong => ?_, fun stopped inRange => ⟨fun crossed => ?_, fun ordered => ?_⟩⟩
  · exact congrArg _ ((if_neg (not_not.2 stopped)).trans (if_pos (all_inRange_eq_false.2 wrong)))
  · exact congrArg _ ((if_neg (not_not.2 stopped)).trans
      ((if_neg (not_all_inRange_eq_false inRange)).trans (if_pos crossed)))
  · obtain ⟨offends, fits⟩ := configureAlignmentBody_records (s := { s with queue := rest }) m stopped inRange rfl ordered
    exact ⟨fun i inside taken unfit lower => congrArg _ (offends i (State.offender_lowest (s := s) inside taken unfit lower)),
      fun fit => congrArg _ (fits (State.offender_eq_none (s := s) fit))⟩

/-! ### START and STOP (R130 to R134) -/

/-- The start of an emission takes no notice of the queue or of the FIFO. -/
theorem State.beginEmission_waiting (queue : List Message) (fifo : List QueuedFrame) (s : State) :
    State.beginEmission { s with queue, fifo } = { s.beginEmission with queue, fifo } := by
  unfold State.beginEmission
  dsimp only
  split
  · rfl
  · split_ifs <;> rfl

theorem State.beginEmission_rest (rest : List Message) (s : State) :
    State.beginEmission { s with queue := rest } = { s.beginEmission with queue := rest } :=
  (State.beginEmission_waiting rest s.fifo s).trans
    (congrArg (fun fifo => { s.beginEmission with queue := rest, fifo }) s.beginEmission_fifo.symm)

/-- R134: the end of a drain that has nothing left, and of one that has. -/
theorem State.drain_running {s : State} (running : s.run = .running) :
    (s.window ≠ [] ∨ s.emission ≠ none → s.drain = { s with run := .draining, nextEpoch := none }) ∧
      (s.window = [] → s.emission = none →
        s.drain = { s with run := .stopped, nextEpoch := none, causes := s.causes ||| EngineCause.drained }) := by
  have drains : s.drain = State.endDrain { s with run := .draining, nextEpoch := none } := if_pos running
  rw [drains]
  exact ⟨fun left => State.endDrain_none (.inr left), fun window emission => State.endDrain_ends rfl window emission⟩

/-- R133: the window with every OPEN slot released by the flush. -/
def State.flushed (s : State) : State :=
  { s with
    run := .draining, nextEpoch := none
    window := s.window.map (fun sl => if sl.status = .opened then { sl with status := .due .flush } else sl) }

theorem State.flush_going {s : State} (going : s.run ≠ .stopped) : s.flush = s.flushed.beginEmission.endDrain := by
  have release : Slot.release .flush = fun sl => if sl.status = .opened then { sl with status := .due .flush } else sl := by
    funext sl
    by_cases opened : sl.status = .opened
    · rw [if_pos opened, Slot.release_opened _ opened]
    · rw [if_neg opened, Slot.release_due _ opened]
  rw [State.flushed, ← release]
  exact if_neg going

theorem State.flush_left {s : State} (going : s.run ≠ .stopped) (left : s.window ≠ [] ∨ s.emission ≠ none) :
    s.flush = s.flushed.beginEmission := by
  rw [State.flush_going going]
  refine State.endDrain_none (.inr ?_)
  by_cases emitting : s.emission = none
  · have full : s.flushed.window ≠ [] := by
      rw [State.flushed, ne_eq, List.map_eq_nil_iff]
      exact left.resolve_right (not_not.2 emitting)
    exact not_and_or.1 (mt (State.beginEmission_leaves (s := s.flushed) emitting).1 full)
  · have busy : ¬ s.flushed.hasRoom := fun room => emitting room.1
    rw [State.beginEmission_none (.inr (.inr busy))]
    exact .inr emitting

theorem State.flush_empty {s : State} (going : s.run ≠ .stopped) (window : s.window = []) (emission : s.emission = none) :
    s.flush = { s with run := .stopped, nextEpoch := none, causes := s.causes ||| EngineCause.drained } := by
  have empty : s.flushed.window = [] := by rw [State.flushed, window, List.map_nil]
  rw [State.flush_going going, State.beginEmission_none (.inl empty), State.endDrain_ends rfl empty emission]
  simp only [State.flushed, window, List.map_nil]

/-- R173: STOP by its mode. -/
theorem stopCommand_mode {m : Message} (len : m.len = 1) (s : State) :
    (fieldAt m.body 0 1 = 0 → stopCommand m s = s.drain.answer m .done .none) ∧
      (fieldAt m.body 0 1 = 1 → stopCommand m s = s.flush.answer m .done .none) ∧
      (1 < fieldAt m.body 0 1 → stopCommand m s = s.answer m .range .none) := by
  rw [stopCommand, withLength_eq len]
  refine ⟨fun drain => if_pos drain, fun flush => ?_, fun wrong => ?_⟩
  · exact (if_neg (by omega)).trans (if_pos flush)
  · exact (if_neg (by omega)).trans (if_neg (by omega))

/-- Settles O43. -/
theorem startAndStop : Obligations.StartAndStop := by
  unfold Obligations.StartAndStop
  refine ⟨fun s m rest offers kind len => ?_, fun s m rest offers kind len => ?_⟩
  · have row : exec .start s = .next (startBody m { s with queue := rest }) :=
      congrArg Host.Outcome.next (State.startCommand_withLength offers kind len _)
    rw [row]
    exact ⟨fun stopped => congrArg _ (if_pos stopped), fun going => congrArg _ (if_neg going)⟩
  · set u : State := { s with queue := rest } with hu
    obtain ⟨drains, flushes, refuses⟩ := stopCommand_mode len u
    have drain_row (mode : fieldAt m.body 0 1 ≠ 1) : exec .stopDrain s = .next (stopCommand m u) := by
      rw [exec_stopDrain_offers offers kind, if_neg fun h => mode h.2]
    have flush_row (mode : fieldAt m.body 0 1 ≠ 0) : exec .stopFlush s = .next (stopCommand m u) := by
      rw [exec_stopFlush_offers offers kind, if_neg fun h => mode h.2]
    refine ⟨fun drain => ?_, fun flush => ?_, fun wrong => ?_⟩
    · rw [drain_row (by omega), drains drain]
      refine ⟨fun idle => ?_, fun running left => ?_, fun running window emission => ?_⟩
      · have stays : u.drain = u := if_neg idle
        rw [stays]
        rfl
      · rw [(State.drain_running (s := u) running).1 left]
        rfl
      · rw [(State.drain_running (s := u) running).2 window emission]
        rfl
    · rw [flush_row (by omega), flushes flush]
      refine ⟨fun stopped => ?_, fun going left => ?_, fun going window emission => ?_⟩
      · have stays : u.flush = u := if_pos stopped
        rw [stays]
        rfl
      · rw [State.flush_left (s := u) going left]
        exact congrArg (fun v => Host.Outcome.next (State.answer m .done .none v))
          (State.beginEmission_rest rest s.flushed)
      · rw [State.flush_empty (s := u) going window emission]
        rfl
    · rw [drain_row (by omega), flush_row (by omega), refuses wrong]
      exact ⟨rfl, rfl⟩

/-! ### RESET ENGINE (R7, R135) -/

/-- The effects of a disposition take no notice of the queue or of the FIFO. -/
theorem State.applyDisposition_waiting (d : Disposition) (queue : List Message) (fifo : List QueuedFrame) (s : State) :
    State.applyDisposition d { s with queue, fifo } = { State.applyDisposition d s with queue, fifo } := by
  cases d
  case placed i al =>
    set r := (s.record i).teach al false
    exact State.beginEmission_waiting queue fifo ((s.setRecord i { r with held := r.held + 1 }).placeEntry i r al)
  all_goals rfl

theorem State.endHandling_waiting (queue : List Message) (fifo : List QueuedFrame) (s : State) :
    State.endHandling { s with queue, fifo } = { s.endHandling with queue, fifo } := by
  unfold State.endHandling
  dsimp only
  split
  · rfl
  next f _ => exact State.applyDisposition_waiting (s.dispose f) queue fifo { s with handling := none }

theorem State.clearEngine_eq (s : State) : s.clearEngine = { s with
    run := .stopped, nextEpoch := none, newest := none, window := [], emission := none
    records := s.records.map (fun r => if r.state = .retiring then Record.vacant else { r with held := 0 })
    counters :=
      { sets := 0, complete := 0, deadline := 0, windowFull := 0, flush := 0, skipped := 0
        dropped := min s.fifo.length 4294967295, unknown := 0 }
    fifo := [], egress := if s.transmitting = true then s.egress.take 1 else [], causes := 0 } := by
  have dropped : satAdd 0 s.fifo.length = min s.fifo.length 4294967295 := by
    rw [satAdd, Nat.zero_add]
    rfl
  have records : mapFrom (fun _ r => r.engineReset) 0 s.records =
      s.records.map (fun r => if r.state = .retiring then Record.vacant else { r with held := 0 }) := mapFrom_const _ _ _
  rw [State.clearEngine, State.mapRecords, dropped]
  simp only [records]
  rfl

/-- R54: the handling that is made to end with the FIFO empty takes no other frame. -/
theorem exec_frameHandling_alone (s : State) :
    exec .frameHandling { s with fifo := [] } = .next { s.endHandling with fifo := [] } := by
  have queue : s.endHandling.queue = s.queue := (congrArg State.queue s.endHandling_outside :)
  have ended : State.endHandling { s with fifo := [] } = { s.endHandling with fifo := [] } :=
    (State.endHandling_waiting s.queue [] s).trans
      (congrArg (fun queue => { s.endHandling with queue, fifo := [] }) queue.symm)
  show Host.Outcome.next (State.takeFrame (State.endHandling (State.takeFrame { s with fifo := [] }))) = _
  rw [State.takeFrame_none (s := { s with fifo := [] }) (.inl rfl), ended,
    State.takeFrame_none (s := { s.endHandling with fifo := [] }) (.inl rfl)]

/-- Settles O44. -/
theorem resetEngineClearsTheRun : Obligations.ResetEngineClearsTheRun := by
  unfold Obligations.ResetEngineClearsTheRun
  intro s h m rest offers kind len idle busy
  have row : exec .resetEngine s = .next (State.answer m .done .none (State.resetEngine { s with queue := rest })) :=
    congrArg Host.Outcome.next (State.startCommand_withLength offers kind len _)
  have ended : State.endHandling { s with queue := rest } = { h with queue := rest, fifo := s.fifo } := by
    refine (State.endHandling_waiting rest s.fifo s).trans ?_
    by_cases none : s.handling = none
    · rw [idle none, State.endHandling]
      simp only [none]
    · have same := (busy none).symm.trans (exec_frameHandling_alone s)
      cases same
      rfl
  rw [row, State.resetEngine, ended, State.clearEngine_eq]
  rfl

end Sys2Proof.Machine

/-! The stream commands that change a record: REGISTER, AMEND, SUSPEND, RESUME, RESET and RETIRE STREAM. -/

namespace Sys2Proof.Machine

/-! ### REGISTER STREAM (R16, R18, R175) -/

/-- R2, R18: the options a list spells. -/
theorem Options.ofItems_eq (items : List Item) : Options.ofItems items =
    { rotate := if itemValue 2 items = some 1 then true else false
      tau := (itemValue 3 items).getD 100
      rho := (itemValue 4 items).getD 0
      filterN := (itemValue 5 items).getD 4
      silenceLimit := (itemValue 6 items).getD 100
      qualityLimit := (itemValue 7 items).getD 15
      watchMask := BitVec.ofNat 16 ((itemValue 8 items).getD 0)
      causeEnable := BitVec.ofNat 6 ((itemValue 9 items).getD 0b000111) } := by
  have rotate : ((itemValue 2 items).map (· == 1)).getD false = if itemValue 2 items = some 1 then true else false := by
    cases itemValue 2 items with
    | none => rfl
    | some v => by_cases one : v = 1 <;> simp [one]
  have watch : ((itemValue 8 items).map (BitVec.ofNat 16)).getD 0 = BitVec.ofNat 16 ((itemValue 8 items).getD 0) := by
    cases itemValue 8 items <;> rfl
  have enable : ((itemValue 9 items).map (BitVec.ofNat 6)).getD 0b000111 =
      BitVec.ofNat 6 ((itemValue 9 items).getD 0b000111) := by
    cases itemValue 9 items <;> rfl
  rw [← rotate, ← watch, ← enable]
  rfl

theorem fixedPartInRange_iff {body : List Byte} : fixedPartInRange body = true ↔
    fieldAt body 0 4 ≠ 0 ∧ fieldAt body 4 1 ≤ 1 ∧ fieldAt body 5 1 ∈ streamRates ∧ fieldAt body 6 3 ≠ 0 ∧
      fieldAt body 9 1 ≤ 12 ∧ fieldAt body 10 1 ≤ 4 := by
  simp only [fixedPartInRange, Bool.and_eq_true, bne_iff_ne, decide_eq_true_eq, List.contains_iff_mem, and_assoc,
    Nat.one_le_iff_ne_zero]

theorem exec_registerStream_offers {s : State} {m : Message} {rest : List Message} {items : List Item}
    (offers : s.offers m rest) (kind : m.kind.toNat = 16) (listed : m.items 11 2 9 = some items) :
    exec .registerStream s = .next (registerBody items m { s with queue := rest }) := by
  refine congrArg Host.Outcome.next ((State.startCommand_isKind offers kind _).trans ?_)
  simp only [registerStreamCommand, listed]

/-- R16: past the range checks, the directory, the rates and the free records in turn. -/
theorem registerBody_inRange {items : List Item} {m : Message} (fixed : fixedPartInRange m.body = true)
    (inRange : ∀ item ∈ items, itemInRange item = true) (s : State) :
    (s.knows (fieldAt m.body 0 4) → registerBody items m s = s.answer m .exist .none) ∧
      (¬ s.knows (fieldAt m.body 0 4) →
        (rateCompatible (fieldAt m.body 5 1) s.settings.rout = false → registerBody items m s = s.answer m .rate .none) ∧
        (rateCompatible (fieldAt m.body 5 1) s.settings.rout = true →
          (s.lowestFree = none → registerBody items m s = s.answer m .full .none) ∧
          ∀ i, s.lowestFree = some i → registerBody items m s =
            { s with port := .editing m.kind m.tag (.insertion i (Registration.ofBody m.body items)) })) := by
  have id : (Registration.ofBody m.body items).streamId = fieldAt m.body 0 4 := rfl
  have rs : (Registration.ofBody m.body items).rs = fieldAt m.body 5 1 := rfl
  have good : ¬ (fixedPartInRange m.body = false ∨ items.all itemInRange = false) := by
    rw [fixed]
    exact fun h => h.elim nofun (not_all_inRange_eq_false inRange)
  refine ⟨fun known => ?_, fun new => ?_⟩
  · have found : (s.lookup (fieldAt m.body 0 4)).isSome = true :=
      Option.isSome_iff_ne_none.2 fun none => State.lookup_eq_none.1 none known
    simp only [registerBody, if_neg good, id, if_pos found]
  · have missing : ¬ (s.lookup (fieldAt m.body 0 4)).isSome = true := by
      rw [State.lookup_eq_none.2 new]
      nofun
    refine ⟨fun unfit => ?_, fun fits => ?_⟩
    · simp only [registerBody, if_neg good, id, rs, if_neg missing, if_pos unfit]
    · have fit : ¬ rateCompatible (fieldAt m.body 5 1) s.settings.rout = false := by rw [fits]; nofun
      refine ⟨fun full => ?_, fun i free => ?_⟩
      · simp only [registerBody, if_neg good, id, rs, if_neg missing, if_neg fit, full]
      · simp only [registerBody, if_neg good, id, rs, if_neg missing, if_neg fit, free]

/-- Settles O46. -/
theorem registerChecksInOrder : Obligations.RegisterChecksInOrder := by
  unfold Obligations.RegisterChecksInOrder
  intro s m rest items g offers kind listed hg
  subst hg
  rw [exec_registerStream_offers offers kind listed]
  refine ⟨⟨rfl, rfl, rfl, rfl, rfl, fun member => if_pos member, fun guest => if_neg (by omega), Options.ofItems_eq items⟩,
    fun wrong => ?_, fun id cls rs tb p a inRange => ?_⟩
  · refine congrArg _ (if_pos ?_)
    by_contra good
    simp only [not_or, Bool.not_eq_false] at good
    obtain ⟨fixed, all⟩ := good
    obtain ⟨id, cls, rs, tb, p, a⟩ := fixedPartInRange_iff.1 fixed
    rcases wrong with h | h | h | h | h | h | ⟨item, mem, bad⟩
    · exact id h
    · exact Nat.not_lt.2 cls h
    · exact h rs
    · exact tb h
    · exact Nat.not_lt.2 p h
    · exact Nat.not_lt.2 a h
    · rw [List.all_eq_true.1 all item mem] at bad
      cases bad
  · obtain ⟨exist, new⟩ := registerBody_inRange (fixedPartInRange_iff.2 ⟨id, cls, rs, tb, p, a⟩) inRange
      { s with queue := rest }
    refine ⟨fun known => congrArg _ (exist known), fun unknown => ⟨fun unfit => congrArg _ ((new unknown).1 unfit), fun fits =>
      ⟨fun full => ?_, fun i inside free lower => ?_⟩⟩⟩
    · refine congrArg _ (((new unknown).2 fits).1 (List.findIdx?_eq_none_iff.2 fun r mem => ?_))
      simpa using full r mem
    · refine congrArg _ (((new unknown).2 fits).2 i ?_)
      refine State.findIdx_eq_some (s := s) inside (by simp [free]) fun j hj => ?_
      simpa using lower j hj

/-! ### AMEND STREAM (R21 to R25) -/

theorem Record.enable_none {items : List Item} (h : itemValue 9 items = none) (r : Record) : r.enable items = r := by
  simp only [Record.enable, h]

theorem Record.enable_some {items : List Item} {v : Nat} (h : itemValue 9 items = some v) (r : Record) :
    r.enable items = { r with opts := { r.opts with causeEnable := BitVec.ofNat 6 v } } := by
  simp only [Record.enable, h]

theorem Amendment.merge_field {α : Type} {o : Option Nat} {f : Nat → α} {old new : Option α}
    (h : ∀ v, o = some v → new = some (f v)) : (o.map f).or old = if o = none then old else new := by
  cases o with
  | none => rfl
  | some v =>
    rw [if_neg nofun, h v rfl]
    rfl

theorem Amendment.merge_value (o old : Option Nat) : o.or old = if o = none then old else o := by
  cases o <;> rfl

/-- R23: the fields of an AMEND STREAM, merged into those that wait. -/
theorem Record.mergedAmendment_eq {items : List Item} {r : Record} {held : Amendment}
    (hheld : held = r.amend.getD Amendment.empty) : r.mergedAmendment items =
      { cls :=
          if itemValue 1 items = none then held.cls
          else if itemValue 1 items = some 0 then some .member else some .guest
        rotate := if itemValue 2 items = none then held.rotate else some (itemValue 2 items == some 1)
        tau := if itemValue 3 items = none then held.tau else itemValue 3 items
        rho := if itemValue 4 items = none then held.rho else itemValue 4 items
        filterN := if itemValue 5 items = none then held.filterN else itemValue 5 items
        silenceLimit := if itemValue 6 items = none then held.silenceLimit else itemValue 6 items
        qualityLimit := if itemValue 7 items = none then held.qualityLimit else itemValue 7 items
        watchMask :=
          if itemValue 8 items = none then held.watchMask else (itemValue 8 items).map (BitVec.ofNat 16) } := by
  subst hheld
  have cls := Amendment.merge_field (o := itemValue 1 items) (f := classOf) (old := (r.amend.getD Amendment.empty).cls)
    (new := if itemValue 1 items = some 0 then some .member else some .guest) fun v value => by
      rw [value, classOf]
      by_cases zero : v = 0 <;> simp [zero]
  have rotate := Amendment.merge_field (o := itemValue 2 items) (f := (· == 1))
    (old := (r.amend.getD Amendment.empty).rotate) (new := some (itemValue 2 items == some 1)) fun v value => by
      rw [value]
      rfl
  have watch := Amendment.merge_field (o := itemValue 8 items) (f := BitVec.ofNat 16)
    (old := (r.amend.getD Amendment.empty).watchMask) (new := (itemValue 8 items).map (BitVec.ofNat 16)) fun v value => by
      rw [value]
      rfl
  rw [← cls, ← rotate, ← watch, ← Amendment.merge_value, ← Amendment.merge_value, ← Amendment.merge_value,
    ← Amendment.merge_value, ← Amendment.merge_value]
  rfl

/-- R21, R22: a list that names no field but the cause enable stages nothing. -/
theorem Amendment.ofItems_eq_empty {items : List Item} (codes : ∀ item ∈ items, 1 ≤ item.1 ∧ item.1 ≤ 9) :
    Amendment.ofItems items = Amendment.empty ↔ ∀ item ∈ items, item.1 = 9 := by
  have absent : Amendment.ofItems items = Amendment.empty ↔
      ∀ code ∈ [1, 2, 3, 4, 5, 6, 7, 8], itemValue code items = none := by
    simp [Amendment.ofItems, Amendment.empty]
  rw [absent]
  constructor
  · intro none item mem
    obtain ⟨low, high⟩ := codes item mem
    by_contra other
    have named : item.1 ∈ [1, 2, 3, 4, 5, 6, 7, 8] := by
      simp only [List.mem_cons, List.not_mem_nil, or_false]
      omega
    exact itemValue_eq_none.1 (none item.1 named) item mem rfl
  · intro nine code named
    refine itemValue_eq_none.2 fun item mem same => ?_
    rw [← same, nine item mem] at named
    exact absurd named (by decide)

/-- R168: the codes of a list lie between the bounds of its command. -/
theorem Message.items_codes {m : Message} {fixed lo hi : Nat} {items : List Item} (h : m.items fixed lo hi = some items) :
    ∀ item ∈ items, lo ≤ item.1 ∧ item.1 ≤ hi := by
  unfold Message.items at h
  split_ifs at h
  exact (parseItems_eq_some.1 h).2

theorem exec_amendStream_offers {s : State} {m : Message} {rest : List Message} {items : List Item}
    (offers : s.offers m rest) (kind : m.kind.toNat = 17) (listed : m.items 4 1 9 = some items) :
    exec .amendStream s = .next (withStream 0 (amendBody items) m { s with queue := rest }) := by
  refine congrArg Host.Outcome.next ((State.startCommand_isKind offers kind _).trans ?_)
  simp only [amendStreamCommand, listed]

/-- R22: what an accepted AMEND STREAM does, by what it names and by the run state. -/
theorem amendBody_inRange {items : List Item} {i : Nat} {m : Message} {s : State} {r : Record} (hr : r = s.record i)
    (inRange : ∀ item ∈ items, itemInRange item = true) :
    (Amendment.ofItems items = Amendment.empty →
      amendBody items i m s = (s.setRecord i (r.enable items)).answer m .done .none) ∧
    (Amendment.ofItems items ≠ Amendment.empty → s.run = .stopped →
      amendBody items i m s =
        (s.setRecord i { (r.enable items).applyAmendment (r.mergedAmendment items) with amend := none }).answer m .done
          .none) ∧
    (Amendment.ofItems items ≠ Amendment.empty → s.run ≠ .stopped →
      amendBody items i m s =
        (s.setRecord i { r.enable items with amend := some (r.mergedAmendment items) }).answer m .deferred .none) := by
  subst hr
  have good := not_all_inRange_eq_false inRange
  refine ⟨fun nothing => ?_, fun something stopped => ?_, fun something going => ?_⟩
  · rw [amendBody, if_neg good, Record.amendBy, if_pos nothing, if_pos (.inl nothing)]
  · rw [amendBody, if_neg good, Record.amendBy, if_neg something, if_pos (beq_iff_eq.2 stopped), if_pos (.inr stopped)]
  · have neither : ¬ (Amendment.ofItems items = Amendment.empty ∨ s.run = .stopped) := not_or.2 ⟨something, going⟩
    rw [amendBody, if_neg good, Record.amendBy, if_neg something, if_neg (mt beq_iff_eq.1 going), if_neg neither]

/-- Settles O47. -/
theorem amendAppliesOrStages : Obligations.AmendAppliesOrStages := by
  unfold Obligations.AmendAppliesOrStages
  intro s m rest items offers kind listed
  rw [exec_amendStream_offers offers kind listed]
  refine ⟨fun unknown => congrArg _ (withStream_unknown (s := { s with queue := rest }) unknown _), fun i known => ?_⟩
  rw [withStream_known (s := { s with queue := rest }) known]
  refine ⟨fun wrong => congrArg _ (if_pos (all_inRange_eq_false.2 wrong)),
    fun enabled held merged inRange keeps enables none_held some_held hmerged => ?_⟩
  have is_enabled : enabled = (s.record i).enable items := by
    cases value : itemValue 9 items with
    | none => rw [keeps value, Record.enable_none value]
    | some v => rw [enables v value, Record.enable_some value]
  have is_held : held = (s.record i).amend.getD Amendment.empty := by
    cases waits : (s.record i).amend with
    | none => exact none_held waits
    | some m => exact some_held m waits
  rw [← Record.mergedAmendment_eq is_held] at hmerged
  subst is_enabled hmerged
  have codes := Message.items_codes listed
  obtain ⟨nothing, at_once, staged⟩ := amendBody_inRange (m := m) (s := { s with queue := rest }) (i := i) rfl inRange
  have named (h : ∃ item ∈ items, item.1 ≠ 9) : Amendment.ofItems items ≠ Amendment.empty := fun empty =>
    have ⟨item, mem, other⟩ := h
    other ((Amendment.ofItems_eq_empty codes).1 empty item mem)
  refine ⟨fun nine => congrArg _ (nothing ((Amendment.ofItems_eq_empty codes).2 nine)), fun some stopped => ?_,
    fun some going => congrArg _ (staged (named some) going)⟩
  exact congrArg _ (at_once (named some) stopped)

/-! ### SUSPEND, RESUME, RESET and RETIRE STREAM (R20, R26 to R29) -/

/-- A record that is written back changes nothing. -/
theorem State.setRecord_record (i : Nat) (s : State) : s.setRecord i (s.record i) = s := by
  have same : s.records.set i (s.record i) = s.records := by
    by_cases inside : i < s.records.length
    · rw [State.record_eq_of_getElem? (List.getElem?_eq_getElem inside), List.set_getElem_self]
    · rw [List.set_eq_of_length_le (Nat.not_lt.1 inside)]
  rw [State.setRecord, same]

/-- R20: a record leaves ACTIVE. -/
theorem State.moveRecord_active {i : Nat} {s : State} (active : (s.record i).state = .active) (r : Record) :
    s.moveRecord i r = State.beginEmission { s with
      window := s.window.map (Slot.dropExpected i), records := s.records.set i r } := if_pos active

theorem State.moveRecord_other {i : Nat} {s : State} (other : (s.record i).state ≠ .active) (r : Record) :
    s.moveRecord i r = { s with records := s.records.set i r } := if_neg other

theorem Record.suspend_suspended {r : Record} (h : r.state = .suspended) : r.suspend = r := if_pos h

theorem Record.suspend_other {r : Record} (h : r.state ≠ .suspended) :
    r.suspend = { r with state := .suspended, silence := 0, recovery := 0 } := if_neg h

/-- R20: the move of a record out of ACTIVE takes no notice of the queue. -/
theorem State.moveRecord_active_rest {i : Nat} {s : State} (active : (s.record i).state = .active) (r : Record)
    (rest : List Message) : State.moveRecord i r { s with queue := rest } =
      { State.beginEmission { s with
          window := s.window.map (Slot.dropExpected i), records := s.records.set i r } with queue := rest } :=
  (State.moveRecord_active (s := { s with queue := rest }) active r).trans (State.beginEmission_rest rest
    { s with window := s.window.map (Slot.dropExpected i), records := s.records.set i r })

theorem Slot.isComplete_iff {sl : Slot} :
    sl.isComplete = true ↔ sl.snapshot ≠ 0 ∧ ∀ m ∈ sl.expected, sl.hasEntry m.1 = true := by
  simp [Slot.isComplete]

/-- Settles O48. -/
theorem suspendResumeResetRetire : Obligations.SuspendResumeResetRetire := by
  unfold Obligations.SuspendResumeResetRetire
  refine ⟨fun s m rest id offers len hid => ⟨fun row mem kind unknown => ?_, fun i r known hr => ?_⟩, fun i sl =>
    ⟨fun stays => if_neg ?_, fun left opened expects new hleft => ?_⟩⟩
  · subst hid
    simp only [List.mem_cons, List.not_mem_nil, or_false] at mem
    rcases mem with rfl | rfl | rfl | rfl | rfl
    all_goals exact congrArg _ (State.startCommand_unknown offers kind len unknown _)
  · subst hid hr
    set u : State := { s with queue := rest } with hu
    have suspends (kind : m.kind.toNat = 18) : exec .suspendStream s =
        .next ((u.moveRecord i (s.record i).suspend).answer m .done .none) :=
      congrArg Host.Outcome.next (State.startCommand_known offers kind len known _)
    have resumes (kind : m.kind.toNat = 19) : exec .resumeStream s =
        .next (if (s.record i).state = .suspended then
          (u.setRecord i { s.record i with state := .pending }).answer m .done .none
          else u.answer m .state .none) :=
      congrArg Host.Outcome.next (State.startCommand_known offers kind len known _)
    have resets (kind : m.kind.toNat = 20) : exec .resetStream s =
        .next ((u.moveRecord i (s.record i).restart).answer m .done .none) :=
      congrArg Host.Outcome.next (State.startCommand_known offers kind len known _)
    have moved {r : Record} (active : (s.record i).state = .active) := State.moveRecord_active_rest active r rest
    have other {r : Record} (idle : (s.record i).state ≠ .active) := State.moveRecord_other (s := u) idle r
    refine ⟨fun kind suspended => ?_, fun kind active => ?_, fun kind awake idle => ?_, fun kind suspended => ?_,
      fun kind awake => ?_, fun fresh hfresh => ⟨fun kind active => ?_, fun kind idle => ?_⟩, fun kind => ?_⟩
    · have idle : (s.record i).state ≠ .active := by rw [suspended]; nofun
      rw [suspends kind, Record.suspend_suspended suspended, other idle]
      exact congrArg (fun v => Host.Outcome.next (State.answer m .done .none v)) (State.setRecord_record i u)
    · rw [suspends kind, Record.suspend_other (by rw [active]; nofun), moved active]
      rfl
    · rw [suspends kind, Record.suspend_other awake, other idle]
      rfl
    · rw [resumes kind, if_pos suspended]
      rfl
    · rw [resumes kind, if_neg awake]
      rfl
    · rw [resets kind, moved active, hfresh]
      rfl
    · rw [resets kind, other idle, hfresh]
      rfl
    · exact congrArg _ (State.startCommand_known offers kind len known _)
  · rintro ⟨opened, expects, new⟩
    rcases stays with h | h | h
    · exact h opened
    · rw [expects] at h
      cases h
    · rw [new] at h
      cases h
  · have dropped : sl.dropExpected i = left.testComplete := by
      rw [hleft]
      exact if_pos ⟨opened, expects, new⟩
    have same_entries (j : Nat) : left.hasEntry j = sl.hasEntry j := by rw [hleft]; rfl
    have snapshot : left.snapshot = sl.snapshot := by rw [hleft]
    have still : left.status = .opened := by rw [hleft]; exact opened
    have complete_iff : left.isComplete = true ↔ sl.snapshot ≠ 0 ∧ ∀ m ∈ left.expected, sl.hasEntry m.1 = true := by
      simp only [Slot.isComplete_iff, same_entries, snapshot]
    rw [dropped, Slot.testComplete_opened still]
    refine ⟨fun complete => if_pos (complete_iff.2 complete), fun incomplete => if_neg fun complete => ?_⟩
    obtain ⟨nonempty, all⟩ := complete_iff.1 complete
    rcases incomplete with empty | ⟨member, mem, missing⟩
    · exact nonempty empty
    · rw [all member mem] at missing
      cases missing

end Sys2Proof.Machine

/-! The bytes of sets and answers, and the length of the longest answer. -/

namespace Sys2Proof.Machine

/-! ### Numbers and flags in bytes -/

theorem beBytes_one (v : Nat) : beBytes 1 v = [BitVec.ofNat 8 v] := by
  rw [beBytes, beBytes, Nat.pow_zero, Nat.div_one]

theorem beBytes_getElem? {n i : Nat} (h : i < n) (v : Nat) :
    (beBytes n v)[i]? = some (BitVec.ofNat 8 (v / 256 ^ (n - 1 - i))) := by
  induction n generalizing i with
  | zero => cases h
  | succ n ih =>
    cases i with
    | zero => rfl
    | succ i =>
      rw [beBytes, List.getElem?_cons_succ, ih (Nat.lt_of_succ_lt_succ h), Nat.succ_sub_one, Nat.sub_sub, Nat.add_comm 1 i]

theorem beBytes_toNat (b : Bool) : beBytes 1 b.toNat = [if b = true then 1 else 0] := by
  cases b <;> rfl

/-! ### Aligned sets (R192) -/

/-- R192: the flags byte of a PRESENT entry. -/
theorem flagsByte_present (e : Entry) : beBytes 1 (SetEntry.present e).flagsByte =
    [0b10000000 ||| (if e.align = .rotated then 0b01000000 else 0) ||| (if e.suspect = true then 0b00100000 else 0) |||
      (if e.extra = true then 0b00010000 else 0)] := by
  rw [beBytes_one, SetEntry.flagsByte]
  cases e.align <;> cases e.suspect <;> cases e.extra <;> rfl

theorem SetEntry.bytes_present (e : Entry) : (SetEntry.present e).bytes =
    beBytes 2 e.index ++
    [0b10000000 ||| (if e.align = .rotated then 0b01000000 else 0) |||
      (if e.suspect = true then 0b00100000 else 0) ||| (if e.extra = true then 0b00010000 else 0)] ++
    beBytes 4 e.streamId ++ beBytes 2 e.flags.toNat ++ beBytes 4 (e.residual % 4294967296).toNat ++
    beBytes 3 e.latency ++ beBytes 1 e.data.phasors.length ++ beBytes 1 e.data.analogs.length ++
    e.data.phasors.flatMap (fun ph => beBytes 2 ph.magnitude.toNat ++ beBytes 2 ph.angle.toNat) ++
    beBytes 2 e.data.freqDev.toNat ++ beBytes 2 e.data.rocof.toNat ++
    e.data.analogs.flatMap (fun a => beBytes 2 a.toNat) ++ beBytes 2 e.data.digital.toNat := by
  have residual : (BitVec.ofInt 32 e.residual).toNat = (e.residual % 4294967296).toNat := BitVec.toNat_ofInt ..
  simp only [SetEntry.bytes, flagsByte_present, residual, Measured.bytes, List.append_assoc]

theorem SetEntry.bytes_absent (i id : Nat) : (SetEntry.absent i id).bytes = beBytes 2 i ++ [0] ++ beBytes 4 id := by
  rw [SetEntry.bytes, SetEntry.flagsByte, beBytes_one]
  rfl

/-- R192: the length of an entry of a set. -/
def SetEntry.size : SetEntry → Nat
  | .present e => 24 + 4 * e.data.phasors.length + 2 * e.data.analogs.length
  | .absent _ _ => 7

theorem SetEntry.bytes_length (x : SetEntry) : x.bytes.length = x.size := by
  cases x with
  | absent i id => simp [SetEntry.bytes_absent, SetEntry.size]
  | present e =>
    have phasors := length_flatMap_of_size
      (g := fun ph : Phasor => beBytes 2 ph.magnitude.toNat ++ beBytes 2 ph.angle.toNat) Phasor.wire_length e.data.phasors
    have analogs := length_flatMap_of_size (g := fun a : BitVec 16 => beBytes 2 a.toNat) (fun _ => beBytes_length 2 _)
      e.data.analogs
    rw [SetEntry.bytes_present, SetEntry.size]
    simp only [List.length_append, List.length_singleton, beBytes_length, phasors, analogs]
    omega

theorem AlignedSet.bytes_length (a : AlignedSet) : a.bytes.length = 20 + (a.entries.map SetEntry.size).sum := by
  have sizes : a.entries.map (fun x => x.bytes.length) = a.entries.map SetEntry.size :=
    List.map_congr_left fun x _ => x.bytes_length
  rw [AlignedSet.bytes, List.length_append, List.length_flatMap, sizes]
  simp [SetHeader.bytes]

/-! ### Answers (R194) -/

theorem RecordCounters.bytes_eq (c : RecordCounters) : c.bytes =
    [c.placed, c.late, c.duplicate, c.decimated, c.misaligned, c.ahead, c.shape, c.refused, c.idle].flatMap
      (beBytes 4) := by
  simp only [RecordCounters.bytes, List.flatMap_cons, List.flatMap_nil, List.append_assoc, List.append_nil]

theorem RecordCounters.bytes_length (c : RecordCounters) : c.bytes.length = 36 := by simp [RecordCounters.bytes]

theorem EngineReport.bytes_eq (r : EngineReport) : r.bytes =
    beBytes 1 r.run.code ++ beBytes 1 r.tbState.code ++ beBytes 1 r.openSlots ++ beBytes 1 r.dueSlots ++
      beBytes 1 r.occupancy ++ beBytes 2 r.freeRecords ++ optionalBytes 4 r.newestWait ++
      beBytes 1 r.settings.rout ++ beBytes 1 r.settings.f0 ++ beBytes 1 r.settings.mode.code ++
      beBytes 4 r.settings.wFixed ++ beBytes 4 r.settings.wMin ++ beBytes 4 r.settings.wMax ++
      beBytes 1 r.settings.margin ++ beBytes 4 r.tbSettings.tolerance ++ beBytes 4 r.tbSettings.stepLimit ++
      beBytes 2 r.tbSettings.holdoverLimit ++ beBytes 1 r.mask.toNat ++
      [r.counters.sets, r.counters.complete, r.counters.deadline, r.counters.windowFull, r.counters.flush,
        r.counters.skipped, r.counters.dropped, r.counters.unknown].flatMap (beBytes 4) := by
  delta EngineReport.bytes
  simp only [List.flatMap_cons, List.flatMap_nil, List.append_assoc, List.append_nil]

/-- R179: the fields of READ STREAM. -/
theorem recordBytes_eq (i : Nat) (r : Record) : recordBytes i r =
    beBytes 2 i ++ beBytes 1 r.state.code ++ beBytes 4 r.streamId ++ beBytes 1 r.cls.code ++ beBytes 1 r.rs ++
      beBytes 3 r.tb ++ beBytes 1 r.p ++ beBytes 1 r.a ++ [if r.opts.rotate = true then 1 else 0] ++
      beBytes 2 r.opts.tau ++ beBytes 2 r.opts.rho ++ beBytes 1 r.opts.filterN ++ beBytes 1 r.opts.silenceLimit ++
      beBytes 1 r.opts.qualityLimit ++ beBytes 2 r.opts.watchMask.toNat ++ beBytes 1 r.opts.causeEnable.toNat ++
      amendmentField r.amend ++ beBytes 1 r.history.length ++ r.history.flatMap (beBytes 3) ++
      optionalBytes 3 r.filtered ++ beBytes 1 r.clock.code ++ beBytes 1 r.disagree ++ beBytes 1 r.silence ++
      beBytes 1 r.recovery ++ beBytes 1 r.held ++ beBytes 1 r.causes.toNat ++
      [r.counters.placed, r.counters.late, r.counters.duplicate, r.counters.decimated, r.counters.misaligned,
        r.counters.ahead, r.counters.shape, r.counters.refused, r.counters.idle].flatMap (beBytes 4) := by
  delta recordBytes
  rw [beBytes_toNat, RecordCounters.bytes_eq]

theorem itemBytes_eq (code size : Nat) (o : Option Nat) :
    itemBytes code size o = o.toList.flatMap (fun v => Item.wire size (code, v)) := by
  cases o with
  | none => rfl
  | some v => exact (List.append_nil _).symm

/-- R194: the items of a pending amendment, by ascending code. -/
theorem Amendment.bytes_eq (m : Amendment) : m.bytes =
    [(1, 1, m.cls.map StreamClass.code), (2, 1, m.rotate.map (fun r => if r = true then 1 else 0)), (3, 2, m.tau),
      (4, 2, m.rho), (5, 1, m.filterN), (6, 1, m.silenceLimit), (7, 1, m.qualityLimit),
      (8, 2, m.watchMask.map BitVec.toNat)].flatMap (fun (row : Nat × Nat × Option Nat) =>
        row.2.2.toList.flatMap (fun v => Item.wire row.2.1 (row.1, v))) := by
  have rotate : Bool.toNat = fun r => if r = true then 1 else 0 := funext fun r => by cases r <;> rfl
  simp only [Amendment.bytes, itemBytes_eq, rotate, List.flatMap_cons, List.flatMap_nil, List.append_assoc,
    List.append_nil]

theorem Answer.bytes_eq (a : Answer) : a.bytes =
    [a.kind, a.tag] ++ beBytes 1 a.status.code ++ beBytes 1 a.ret.bytes.length ++ a.ret.bytes := by
  rw [Answer.bytes, beBytes_one, beBytes_one]
  rfl

/-! ### The longest answer (R194) -/

theorem optionalBytes_length_le (size : Nat) (o : Option Nat) : (optionalBytes size o).length ≤ 1 + size := by
  cases o <;> simp [optionalBytes, Nat.add_comm]

theorem optionalBytes_length_of_some {size : Nat} {o : Option Nat} (h : o.isSome) :
    (optionalBytes size o).length = 1 + size := by
  obtain ⟨v, rfl⟩ := Option.isSome_iff_exists.1 h
  simp [optionalBytes, Nat.add_comm]

theorem itemBytes_length_le (code size : Nat) (o : Option Nat) : (itemBytes code size o).length ≤ 1 + size := by
  cases o <;> simp [itemBytes, Nat.add_comm]

theorem itemBytes_length_of_some {code size : Nat} {o : Option Nat} (h : o.isSome) :
    (itemBytes code size o).length = 1 + size := by
  obtain ⟨v, rfl⟩ := Option.isSome_iff_exists.1 h
  simp [itemBytes, Nat.add_comm]

theorem Amendment.bytes_length_le (m : Amendment) : m.bytes.length ≤ 19 := by
  have cls := itemBytes_length_le 1 1 (m.cls.map StreamClass.code)
  have rotate := itemBytes_length_le 2 1 (m.rotate.map Bool.toNat)
  have tau := itemBytes_length_le 3 2 m.tau
  have rho := itemBytes_length_le 4 2 m.rho
  have filterN := itemBytes_length_le 5 1 m.filterN
  have silence := itemBytes_length_le 6 1 m.silenceLimit
  have quality := itemBytes_length_le 7 1 m.qualityLimit
  have watch := itemBytes_length_le 8 2 (m.watchMask.map BitVec.toNat)
  simp only [Amendment.bytes, List.length_append]
  omega

theorem amendmentField_length_le (o : Option Amendment) : (amendmentField o).length ≤ 20 := by
  cases o with
  | none => simp [amendmentField]
  | some m =>
    have := m.bytes_length_le
    rw [amendmentField, List.length_append, beBytes_length]
    omega

theorem recordBytes_length (i : Nat) (r : Record) : (recordBytes i r).length =
    68 + (amendmentField r.amend).length + 3 * r.history.length + (optionalBytes 3 r.filtered).length := by
  have history := length_flatMap_of_size (g := beBytes 3) (beBytes_length 3) r.history
  rw [recordBytes_eq, ← RecordCounters.bytes_eq]
  simp only [List.length_append, beBytes_length, List.length_singleton, RecordCounters.bytes_length, history]
  omega

theorem recordBytes_length_le {r : Record} (h : r.history.length ≤ 8) (i : Nat) : (recordBytes i r).length ≤ 116 := by
  have amendment := amendmentField_length_le r.amend
  have filtered := optionalBytes_length_le 3 r.filtered
  rw [recordBytes_length]
  omega

theorem EngineReport.bytes_length_le (r : EngineReport) : r.bytes.length ≤ 71 := by
  have wait := optionalBytes_length_le 4 r.newestWait
  rw [EngineReport.bytes_eq]
  simp only [List.length_append, beBytes_length, length_flatMap_of_size (beBytes_length 4), List.length_cons,
    List.length_nil]
  omega

/-- R194: return fields that fit the longest answer. -/
def ReturnFields.fits (ret : ReturnFields) : Prop := ret.bytes.length ≤ 116

theorem ReturnFields.fits_none : ReturnFields.none.fits := Nat.zero_le _

theorem ReturnFields.fits_index (i : Nat) : (ReturnFields.index i).fits := by
  show (beBytes 2 i).length ≤ 116
  rw [beBytes_length]
  omega

theorem ReturnFields.fits_stream {r : Record} (h : r.history.length ≤ 8) (i : Nat) : (ReturnFields.stream i r).fits :=
  recordBytes_length_le h i

theorem State.Shows.fits {s : State} {ret : ReturnFields} (h : s.Shows ret)
    (histories : ∀ i, (s.record i).history.length ≤ 8) : ret.fits := by
  cases h
  case engine => exact s.report.bytes_length_le.trans (by omega)
  case time =>
    have armed := optionalBytes_length_le 4 s.tb.armed
    simp only [ReturnFields.fits, ReturnFields.bytes, List.length_append, beBytes_length]
    omega
  case lookup i =>
    simp only [ReturnFields.fits, ReturnFields.bytes, List.length_append, beBytes_length]
    omega
  case pairs ps more few =>
    have pairs := length_flatMap_of_size (g := fun p : Nat × Nat => beBytes 4 p.1 ++ beBytes 2 p.2) (b := 6)
      (fun p => by simp) ps
    simp only [ReturnFields.fits, ReturnFields.bytes, List.length_append, beBytes_length, pairs]
    omega
  case stream i => exact ReturnFields.fits_stream (histories i) i
  case noneFound =>
    simp only [ReturnFields.fits, ReturnFields.bytes, List.length_singleton]
    omega

/-- R194: the answer to a started command. -/
theorem Message.Effect.answer_fits {m : Message} {s u : State} {a : Answer} (h : m.Effect s u)
    (histories : ∀ i, (s.record i).history.length ≤ 8) (port : u.port = .answering a) : a.ret.fits := by
  cases h <;> cases port
  case refused bare =>
    rcases bare with rfl | ⟨-, -, i, rfl⟩
    · exact ReturnFields.fits_none
    · exact ReturnFields.fits_index i
  case shown figures => exact figures.fits histories
  case engineCleared => exact State.Shows.fits (.engine) histories
  case causesTaken =>
    simp only [ReturnFields.fits, ReturnFields.bytes, beBytes_length]
    omega
  case countersRead i => exact ReturnFields.fits_stream (histories i) i
  case streamCausesTaken =>
    simp only [ReturnFields.fits, ReturnFields.bytes, List.length_cons, List.length_append, beBytes_length]
    omega
  all_goals exact ReturnFields.fits_none

/-- R164, R165: the port after a row: as it was, idle, the answer of an edit, or what a started command made of it. -/
theorem State.Moves.port {s t : State} {c : Instr} (h : s.Moves c t) : t.port = s.port ∨ t.port = .idle ∨
    (∃ a, t.port = .answering a ∧ (a.ret = .none ∨ ∃ i, a.ret = .index i)) ∨
    ∃ (m : Message) (s' u : State), m.Effect s' u ∧ s'.records = s.records ∧ t.port = u.port := by
  cases h
  case powerOn => exact .inr (.inl rfl)
  case edgeSteps => exact .inl ((congrArg State.port (State.stepTime_outside _ _) :).trans (State.setTimebase_port _ s))
  case ticked e _ _ _ =>
    exact .inl (congrArg State.port (State.tick_outside e { s with nextEpoch := e.succ s.settings.rout }) :)
  case frameHandled =>
    have same : s.takeFrame.endHandling.port = s.takeFrame.port := (congrArg State.port s.takeFrame.endHandling_outside :)
    exact .inl ((State.takeFrame_port _).trans (same.trans s.takeFrame_port))
  case inserted => exact .inr (.inr (.inl ⟨_, State.takeFrame_port _, .inr ⟨_, rfl⟩⟩))
  case removed =>
    refine .inr (.inr (.inl ⟨_, (State.takeFrame_port _).trans (State.beginEmission_port _), .inl rfl⟩))
  case answered => exact .inr (.inl rfl)
  case starts m u _ _ _ _ _ effect _ => exact .inr (.inr (.inr ⟨m, _, u, effect, rfl, rfl⟩))
  all_goals exact .inl (by simp)

theorem exec_answer_fits {c : Instr} {s t : State} (row : exec c s = .next t)
    (histories : ∀ r ∈ s.records, r.history.length ≤ 8) (before : ∀ a, s.port = .answering a → a.ret.fits) :
    ∀ a, t.port = .answering a → a.ret.fits := by
  intro a port
  rcases (exec_moves row).port with same | idle | ⟨a', answer, bare⟩ | ⟨m, s', u, effect, records, same⟩
  · exact before a (same.symm.trans port)
  · cases idle.symm.trans port
  · cases answer.symm.trans port
    rcases bare with none | ⟨i, index⟩
    · rw [none]
      exact ReturnFields.fits_none
    · rw [index]
      exact ReturnFields.fits_index i
  · refine effect.answer_fits (fun i => ?_) (same.symm.trans port)
    rw [State.record_congr records]
    by_cases inside : i < s.records.length
    · rw [State.record_eq_of_getElem? (List.getElem?_eq_getElem inside)]
      exact histories _ (List.getElem_mem inside)
    · rw [State.record, List.getD_eq_default _ _ (Nat.not_lt.1 inside)]
      exact Nat.zero_le _

/-- R194: the answer of 116 bytes. -/
theorem recordBytes_longest {r : Record} {m : Amendment} (i : Nat) (history : r.history.length = 8)
    (filtered : r.filtered.isSome) (amend : r.amend = some m) (length : m.bytes.length = 19) :
    (recordBytes i r).length = 116 := by
  rw [recordBytes_length, history, optionalBytes_length_of_some filtered, amend, amendmentField, List.length_append,
    beBytes_length, length]

theorem Amendment.bytes_length_full {m : Amendment} (cls : m.cls.isSome) (rotate : m.rotate.isSome) (tau : m.tau.isSome)
    (rho : m.rho.isSome) (filterN : m.filterN.isSome) (silence : m.silenceLimit.isSome) (quality : m.qualityLimit.isSome)
    (watch : m.watchMask.isSome) : m.bytes.length = 19 := by
  simp only [Amendment.bytes, List.length_append, itemBytes_length_of_some, Option.isSome_map, cls, rotate, tau, rho,
    filterN, silence, quality, watch]

/-- Settles O53. -/
theorem lengthsAndBytesOnTheWire : Obligations.LengthsAndBytesOnTheWire := by
  unfold Obligations.LengthsAndBytesOnTheWire
  refine ⟨⟨rfl, rfl, rfl, rfl, rfl, rfl, rfl, rfl, rfl, rfl, fun n v => ⟨beBytes_length n v, fun i hi => beBytes_getElem? hi v⟩⟩,
    ⟨fun a => rfl, SetEntry.bytes_absent, SetEntry.bytes_present⟩,
    ⟨Answer.bytes_eq, rfl, rfl, fun i => rfl, fun i st => rfl, fun c => rfl, fun i id c => ?_, fun ps more => ?_,
      fun size v => ⟨rfl, rfl⟩, fun t tb armed => rfl, EngineReport.bytes_eq, recordBytes_eq, rfl, fun m body hbody => ?_⟩,
    fun a => ?_, fun a => ?_, fun i r m history filtered amend cls rotate tau rho filterN silence quality watch => ?_,
    fun c s t histories before row => exec_answer_fits row histories before⟩
  · rw [ReturnFields.bytes, List.append_assoc, List.append_assoc, List.append_assoc]
    rfl
  · rw [ReturnFields.bytes, beBytes_toNat]
  · rw [hbody, ← Amendment.bytes_eq]
    rfl
  · rw [AlignedSet.bytes_length]
    rfl
  · rw [Answer.bytes, List.length_append]
    rfl
  · exact recordBytes_longest i history filtered amend
      (Amendment.bytes_length_full cls rotate tau rho filterN silence quality watch)

end Sys2Proof.Machine
